-- ==== Sys2Proof/Word.lean ====
section
/-! DEFINITION. Word.lean: the widths the spec fixes (`00_scope.md` R7, R9): bytes, register addresses, the 32-bit
result registers and the 4-bit response code. -/

namespace Sys2Proof

/-- A byte is 8 bits (R9); the data width of the host port is 8 bits (R7). -/
abbrev Byte := BitVec 8

/-- An address of the register space, 8 bits (R7, R50). -/
abbrev Addr := BitVec 8

/-- A result register (B5, T, P): 32 bits, read as two's complement (R7, R30 to R32). -/
abbrev Word := BitVec 32

/-- A response code, 4 bits (R7, R70). -/
abbrev Resp := BitVec 4

end Sys2Proof
end

