-- ==== Sys2Proof/Syntax.lean ====
section
/-! DEFINITION. Syntax.lean: the commands of the engine, one constructor per row of `spec/opcode_table.json`
(`30_encoding.md` R72). A command has no operand field (R71): every operand is an implicit register. -/

namespace Sys2Proof

/-- The four commands (R72). They are what this hardware has in the place of instructions (R2). -/
inductive Instr where
  /-- LOCK, byte 0x01: lock the calibration block (R90). -/
  | lock
  /-- CLRERR, byte 0x02: clear the error log (R91). -/
  | clrerr
  /-- CTEMP, byte 0x20: compensate temperature (R100). -/
  | ctemp
  /-- CPRES, byte 0x21: compensate pressure (R120). -/
  | cpres
deriving DecidableEq, Repr

end Sys2Proof
end

