-- ==== Sys2Proof/Decode.lean ====
section
/-! DEFINITION. Decode.lean: decoding of the command byte by mask and match (`30_encoding.md` R72), rejection of every
other byte by name (R73), and after it the encoder from the fields `grp` and `fn` of format C (R71). -/

namespace Sys2Proof

/-- Why a command byte encodes no command (R73). -/
inductive DecodeError where
  /-- `grp` is 1 or 3..15, a group reserved for later versions. -/
  | reservedGroup (grp : BitVec 4)
  /-- `grp` is 0 or 2 and `fn` names no command of it. -/
  | unusedFunction (grp fn : BitVec 4)
deriving DecidableEq, Repr

/-- A row of the command table: a byte selects the row when `byte &&& mask = pattern` (R72). -/
structure CommandRow where
  instr : Instr
  mask : Byte
  pattern : Byte
deriving DecidableEq, Repr

/-- The command table (R72; `opcode_table.json`). -/
def commandTable : List CommandRow :=
  [ ⟨.lock, 0xFF, 0x01⟩,
    ⟨.clrerr, 0xFF, 0x02⟩,
    ⟨.ctemp, 0xFF, 0x20⟩,
    ⟨.cpres, 0xFF, 0x21⟩ ]

/-- Does the byte select the row? (R72) -/
def CommandRow.selects (r : CommandRow) (b : Byte) : Bool := b &&& r.mask == r.pattern

/-- Field `grp` of format C, bits 7:4 (R71). -/
def grpOf (b : Byte) : BitVec 4 := b.extractLsb' 4 4

/-- Field `fn` of format C, bits 3:0 (R71). -/
def fnOf (b : Byte) : BitVec 4 := b.extractLsb' 0 4

/-- The name under which an illegal byte is rejected (R73). -/
def illegalByte (b : Byte) : DecodeError :=
  if grpOf b = 0 ∨ grpOf b = 2 then .unusedFunction (grpOf b) (fnOf b) else .reservedGroup (grpOf b)

/-- Decoding of a command byte, total on all 256 bytes (R72, R73). One write carries one whole command (R74). -/
def decode (b : Byte) : Except DecodeError Instr :=
  match commandTable.find? (fun r => r.selects b) with
  | some r => .ok r.instr
  | none => .error (illegalByte b)

/-- The host's question: the instruction whose bits are `w`, bit 0 the least significant bit of the command byte. A
command is exactly one byte (R71), so a number with a bit above bit 7 is no command. -/
def decodeTableWord (_nbits w : Nat) : Option Instr :=
  if w < 256 then (decode (BitVec.ofNat 8 w)).toOption else none

/-- The family `grp` of a command: 0 control, 2 compensation (R71, R72). -/
def Instr.grp : Instr → BitVec 4
  | .lock => 0
  | .clrerr => 0
  | .ctemp => 2
  | .cpres => 2

/-- The command `fn` within its family (R71, R72). -/
def Instr.fn : Instr → BitVec 4
  | .lock => 1
  | .clrerr => 2
  | .ctemp => 0
  | .cpres => 1

/-- The command byte `grp : fn`, `grp` in the more significant position (R71, R72). -/
def encode (i : Instr) : Byte := i.grp ++ i.fn

end Sys2Proof
end

