-- ==== Sys2Proof/Config.lean ====
section
/-! DEFINITION. Config.lean: what an implementation fixes: the rounding of the two general divisions (`93` U1) and the
named parameters the spec leaves open (`00_scope.md` R8). -/

namespace Sys2Proof.Config

/-- The two readings of `DIV_ROUND` (`93_implementation_defined.md` U1, `92_eei_decisions.md` D5). -/
inductive DivRound where
  /-- Quotient rounded toward minus infinity: the normative `fdiv` of R11. -/
  | floor
  /-- Quotient rounded toward zero: the alternative D5 sets aside. -/
  | trunc
deriving DecidableEq, Repr

/-- `DIV_ROUND`: the rounding of `n / d` in CTEMP and of `/ B4` in CPRES. The default and normative value is `floor`;
every rule and every vector of the spec is written for it (U1, D5). Log entry 5. -/
def divRound : DivRound := .floor

/-- `LAT_ACC` (R8): the time a host read or write takes. Open; the model has no time and reads it nowhere (R200). -/
opaque latAcc : Nat

/-- `LAT_CMD(op)` (R8): the time a command takes. Open; the model has no time and reads it nowhere (R200). -/
opaque latCmd : Instr → Nat

/-- `CHIP_ID_EXPECTED` (R8): the one-byte constant the HOST compares the sensor's chip identifier with before it loads
and locks the coefficients (R193 step 1, D27). Open; only the host's procedure `Machine.initSequence` reads it. -/
opaque chipIdExpected : Byte

end Sys2Proof.Config
end

