-- ==== Sys2Proof/Machine/State.lean ====
section
/-! DEFINITION. State.lean: the error codes (`60_exceptions.md` R161), the two transaction formats (`30_encoding.md`
R70), the inputs of the engine, and the state: every item of `10_state.md` R20, and beside them the three fields that
are the model's own (the reset input, the pending inputs, the port's last answer; log entries 1, 2, 3). -/

namespace Sys2Proof.Machine

/-- The eight error codes (R161). -/
inductive ErrCode where
  /-- 1, E_ACCESS: unmapped address, read of CMD, write to a read-only register. -/
  | access
  /-- 2, E_CMD: the byte written to CMD encodes no command. -/
  | cmd
  /-- 3, E_MODE: data above 3 written to OSS. -/
  | mode
  /-- 4, E_LOCKED: write to CAL, or LOCK, while `CALV = 1`. -/
  | locked
  /-- 5, E_SEQ: a precondition on flags fails (LOCK, CTEMP, CPRES). -/
  | seq
  /-- 6, E_NOTVALID: read of B5, T or P while its guarding flag is 0. -/
  | notvalid
  /-- 7, E_DIV0: zero divisor in CTEMP or CPRES. -/
  | div0
  /-- 8, E_RANGE: the pressure does not fit 32 bits. -/
  | range
deriving DecidableEq, Repr

/-- Is a transaction a read or a write? It decides the form of the answer (R70). -/
inductive Access where
  | read
  | write
deriving DecidableEq, Repr

/-- A transaction (R70): a read of one byte, or a write of one byte. The only access size is 1 (R12, R63). -/
inductive Transaction where
  /-- `MemRead(addr, 1)`, `rw = 0`. -/
  | read (addr : Addr)
  /-- `MemWrite(addr, 1, data)`, `rw = 1`. -/
  | write (addr : Addr) (data : Byte)
deriving DecidableEq, Repr

/-- What the engine answers to a transaction (R70). Code 0 is OKAY. -/
inductive Answer where
  /-- Answer of a read: the data byte and the response code. -/
  | read (data : Byte) (resp : Resp)
  /-- Answer of a write: the response code. -/
  | write (resp : Resp)
deriving DecidableEq, Repr

/-- What reaches the engine from outside (R14): transactions of the one host, and the reset input (R190). -/
inductive HostEvent where
  | transaction (t : Transaction)
  /-- The reset input becomes active (R190). -/
  | resetApply
  /-- The reset input becomes inactive (R192). -/
  | resetRelease
deriving DecidableEq, Repr

/-- The state. The first fourteen fields are R20's list, in its order; the last three are the model's own. -/
structure State where
  /-- `CAL[0..21]`, the calibration bytes (R21). -/
  cal : Vector Byte 22
  /-- `CALW[0..21]`, bit `i` is `CALW[i]`: byte `i` written since reset (R22). -/
  calw : BitVec 22
  /-- `CALV`: coefficients locked and valid (R23). -/
  calv : Bool
  /-- `SB[0..2]`: the sample bytes MSB, LSB, XLSB (R27). -/
  sb : Vector Byte 3
  /-- `SBW[0..2]`, bit `j` is `SBW[j]`: sample byte `j` written since last consumed (R28). -/
  sbw : BitVec 3
  /-- `OSS`: the mode level `m` (R29). -/
  oss : BitVec 2
  /-- `B5`: the intermediate term kept between the two chains, two's complement (R30). -/
  b5 : Word
  /-- `T`: the temperature in 0.1 degree Celsius, two's complement (R31). -/
  t : Word
  /-- `P`: the pressure in Pascal, two's complement (R32). -/
  p : Word
  /-- `TV`: B5 and T hold a result (R33). -/
  tv : Bool
  /-- `PV`: P holds a result computed from the current B5 (R34). -/
  pv : Bool
  /-- `BR`: the branch the last successful CPRES took (R35). -/
  br : Bool
  /-- `ERR`: the sticky error bits, bit `c - 1` for code `c` (R38). -/
  err : BitVec 8
  /-- `ECAUSE`: the code of the most recent refused transaction (R39). -/
  ecause : BitVec 4
  /-- The model's own: is the reset input active? (R171 "either in reset or ready for a transaction"; log entry 2) -/
  resetApplied : Bool
  /-- The model's own: what the host and the reset input still do, first to come first (R64; log entry 1). -/
  inputs : List HostEvent
  /-- The model's own: the answer the port gave to the latest transaction, none before the first (R70; log entry 3). -/
  answer : Option Answer
deriving DecidableEq, Repr

/-- Faults that stop the machine: none. No event stops the engine (`93_implementation_defined.md` section 1, "`stuck`
(not used)"); an error is a refused transaction, after which the engine goes on (R160, R165), so it is a next state. -/
inductive Fault where
deriving DecidableEq, Repr

/-- Runs to which the model gives no meaning. -/
inductive Refusal where
  /-- Raised by an arm of `exec` whose instruction has no meaning yet. No arm raises it now. Safe. -/
  | notModelled (mnemonic : String)
  /-- Raised by `hostEvent` for a transaction issued while reset is applied: "the model gives such a run no meaning"
  (R192, U3). Safe: nothing is proved of such a run. -/
  | transactionDuringReset
deriving DecidableEq, Repr

/-- The state right after reset (R43, R190): every item of R20 at the value R43 states, the reset input released, no
input pending, nothing answered. -/
def State.reset : State where
  cal := Vector.replicate 22 0x00
  calw := 0
  calv := false
  sb := Vector.replicate 3 0x00
  sbw := 0
  oss := 0
  b5 := 0
  t := 0
  p := 0
  tv := false
  pv := false
  br := false
  err := 0x00
  ecause := 0
  resetApplied := false
  inputs := []
  answer := none

end Sys2Proof.Machine
end

