-- ==== Sys2Proof/Machine/Ops.lean ====
section
/-! DEFINITION. Ops.lean: the named updates of the state that every rule is written with, among them the ONE operation
that refuses a transaction (`raise`, `60_exceptions.md` R163) and the reset event (`70_reset_and_hazards.md` R190). -/

namespace Sys2Proof.Machine

/-- The numeric value of an error code (R161). -/
def ErrCode.code : ErrCode → Resp
  | .access => 1
  | .cmd => 2
  | .mode => 3
  | .locked => 4
  | .seq => 5
  | .notvalid => 6
  | .div0 => 7
  | .range => 8

/-- The ERR bit of an error code, `code - 1` (R161, R38), as a mask. -/
def ErrCode.errBit (e : ErrCode) : BitVec 8 := 1#8 <<< (e.code.toNat - 1)

/-- The response code OKAY (R52, R70). -/
def okay : Resp := 0

/-- The answer of a refused transaction: a read returns data 0x00 (R163, R60). -/
def refusalAnswer (a : Access) (e : ErrCode) : Answer :=
  match a with
  | .read => .read 0x00 e.code
  | .write => .write e.code

/-- The port gives its answer (R70). -/
def State.answered (s : State) (a : Answer) : State := { s with answer := some a }

/-- A write answered OKAY. -/
def State.okWrite (s : State) : State := s.answered (.write okay)

/-- A read answered OKAY with its data byte. -/
def State.okRead (s : State) (d : Byte) : State := s.answered (.read d okay)

/-- `raise E_X` (R163): `ERR[code - 1] <- 1`, `ECAUSE <- code`, the response code is `code`, a read returns 0x00; nothing
else changes. Nothing is saved and control goes nowhere; there is no return from it (R160, R165). -/
def State.raise (s : State) (a : Access) (e : ErrCode) : State :=
  { s with err := s.err ||| e.errBit, ecause := e.code, answer := some (refusalAnswer a e) }

/-- `ERR <- 0x00; ECAUSE <- 0` (R91). -/
def State.clearErrors (s : State) : State := { s with err := 0x00, ecause := 0 }

/-- `CALV <- 1` (R90). -/
def State.lockCal (s : State) : State := { s with calv := true }

/-- `CAL[i] <- d; CALW[i] <- 1` (R56). -/
def State.putCal (s : State) (i : Fin 22) (d : Byte) : State :=
  { s with cal := s.cal.set i d, calw := s.calw ||| (1#22 <<< i.val) }

/-- `SB[j] <- d; SBW[j] <- 1` (R57). -/
def State.putSb (s : State) (j : Fin 3) (d : Byte) : State :=
  { s with sb := s.sb.set j d, sbw := s.sbw ||| (1#3 <<< j.val) }

/-- `OSS <- m` (R58). -/
def State.putOss (s : State) (m : BitVec 2) : State := { s with oss := m }

/-- `SBW[0] <- 0; SBW[1] <- 0; SBW[2] <- 0` (R102, R122): the chain consumes the sample; `SB` keeps its bytes. -/
def State.consumeSample (s : State) : State := { s with sbw := 0 }

/-- `PV <- 0` (R102, R135, R140). -/
def State.dropPressure (s : State) : State := { s with pv := false }

/-- `TV <- 0` (R105). -/
def State.dropTemperature (s : State) : State := { s with tv := false }

/-- `tc_32(x)`, the 32-bit two's-complement pattern of an integer (R10). -/
def tc32 (x : Int) : Word := BitVec.ofInt 32 x

/-- `B5 <- b5; T <- t; TV <- 1` (R109). -/
def State.commitTemperature (s : State) (b5 t : Int) : State := { s with b5 := tc32 b5, t := tc32 t, tv := true }

/-- `P <- pp; PV <- 1; BR <- br` (R141). -/
def State.commitPressure (s : State) (pp : Int) (br : Bool) : State := { s with p := tc32 pp, pv := true, br := br }

/-- Reset is applied (R190): every item of R20 takes its reset value, whatever it held. What the host still does is no
part of the engine and stays. No answer is outstanding (log entry 3). -/
def State.applyReset (s : State) : State := { State.reset with resetApplied := true, inputs := s.inputs }

/-- Reset is released (R192): the engine waits for transactions in the state reset left. -/
def State.releaseReset (s : State) : State := { s with resetApplied := false }

/-- The rest of the inputs, once the first has been taken. -/
def State.withInputs (s : State) (es : List HostEvent) : State := { s with inputs := es }

end Sys2Proof.Machine
end

