-- ==== Sys2Proof/Machine/Operands.lean ====
section
/-! DEFINITION. Operands.lean: the operators of the chains (`00_scope.md` R10, R11), the coefficients (`10_state.md` R24,
R25) and the raw samples (`30_encoding.md` R75). -/

namespace Sys2Proof.Machine

/-- `a >> k`, the arithmetic right shift `floor(a / 2^k)` (R11). -/
def asr (a : Int) (k : Nat) : Int := a >>> k

/-- `a << k = a * 2^k`, exact (R11). -/
def shl (a : Int) (k : Nat) : Int := a * 2 ^ k

/-- Division by a computed value under a rounding (U1): `fdiv` for `floor`, the quotient toward zero for `trunc`. -/
def quotient (r : Config.DivRound) (a b : Int) : Int :=
  match r with
  | .floor => Int.fdiv a b
  | .trunc => Int.tdiv a b

/-- `a fdiv b` of the two general divisions (R11, R106, R136), under `DIV_ROUND` (U1; log entry 5). -/
def fdiv (a b : Int) : Int := quotient Config.divRound a b

/-- The eleven coefficients, in the order of the block (R25). -/
inductive CoefName where
  | AC1 | AC2 | AC3 | AC4 | AC5 | AC6 | B1 | B2 | MB | MC | MD
deriving DecidableEq, Repr

/-- The number `k` of a coefficient in the block (R25). -/
def CoefName.index : CoefName → Fin 11
  | .AC1 => 0
  | .AC2 => 1
  | .AC3 => 2
  | .AC4 => 3
  | .AC5 => 4
  | .AC6 => 5
  | .B1 => 6
  | .B2 => 7
  | .MB => 8
  | .MC => 9
  | .MD => 10

/-- Is coefficient `k` read as unsigned? Those at positions 3, 4, 5: AC4, AC5, AC6 (R24, C2). -/
def coefUnsigned (k : Fin 11) : Bool := k.val == 3 || k.val == 4 || k.val == 5

/-- `w_k = CAL[2k] : CAL[2k+1]`, the more significant byte first (R24, R61). -/
def coefWord (s : State) (k : Fin 11) : BitVec 16 := s.cal[2 * k.val] ++ s.cal[2 * k.val + 1]

/-- `coef_k`: `zext_16(w_k)` for AC4, AC5, AC6 and `sext_16(w_k)` for every other `k` (R24). -/
def coefAt (s : State) (k : Fin 11) : Int :=
  if coefUnsigned k then ((coefWord s k).toNat : Int) else (coefWord s k).toInt

/-- `coef(NAME)` (R24, R25). -/
def coef (s : State) (c : CoefName) : Int := coefAt s c.index

/-- `UT = zext_16(SB[0] : SB[1])` (R75 (b), R103). -/
def rawTemp (s : State) : Int := ((s.sb[0] ++ s.sb[1]).toNat : Int)

/-- `raw = zext_24(SB[0] : SB[1] : SB[2])` (R123). -/
def rawSample (s : State) : Int := ((s.sb[0] ++ s.sb[1] ++ s.sb[2]).toNat : Int)

/-- `m = OSS` (R123). -/
def modeLevel (s : State) : Nat := s.oss.toNat

/-- `UP = raw >> (8 - m)` (R75 (c), R123). -/
def rawPressure (s : State) : Int := asr (rawSample s) (8 - modeLevel s)

/-- Byte `j` of the `n` bytes of a big-endian register: byte 0 is the most significant (R55, R61). -/
def byteBE (n : Nat) (v : BitVec (8 * n)) (j : Nat) : Byte := v.extractLsb' (8 * (n - 1 - j)) 8

end Sys2Proof.Machine
end

