-- ==== Sys2Proof/Machine/Flags.lean ====
section
/-! DEFINITION. Flags.lean: the flags as registers show them (`10_state.md` R37, R22) and the conditions on flags and
values that the commands test (`40` R90, `41` R101, `42` R121, R140). -/

namespace Sys2Proof.Machine

/-- `EF`: 1 when `ERR != 0` (R37, D29). -/
def errorFlag (s : State) : Bool := s.err != 0

/-- STATUS as a read composes it (R37): EF, SBW2, SBW1, SBW0, BR, PV, TV, CALV from bit 7 down to bit 0. -/
def statusByte (s : State) : Byte :=
  BitVec.ofBool (errorFlag s) ++ s.sbw ++ BitVec.ofBool s.br ++ BitVec.ofBool s.pv ++ BitVec.ofBool s.tv
    ++ BitVec.ofBool s.calv

/-- The 24 bits of the CALW register: bit `i` is `CALW[i]`, bits 23 and 22 read 0 (R51, R54). -/
def calwWord (s : State) : BitVec 24 := s.calw.setWidth 24

/-- `CALW[i] = 1` for all `i` (R90). -/
def allCalWritten (s : State) : Bool := s.calw == BitVec.allOnes 22

/-- CTEMP's precondition (R101): locked, and both bytes of the temperature sample written. -/
def ctempReady (s : State) : Bool := s.calv && s.sbw.getLsbD 0 && s.sbw.getLsbD 1

/-- CPRES's precondition (R121): locked, a temperature stands, and all three sample bytes written. -/
def cpresReady (s : State) : Bool :=
  s.calv && s.tv && s.sbw.getLsbD 0 && s.sbw.getLsbD 1 && s.sbw.getLsbD 2

/-- Does an integer fit a 32-bit two's-complement register? (R140) -/
def fits32 (x : Int) : Bool := decide (-2147483648 ≤ x) && decide (x ≤ 2147483647)

end Sys2Proof.Machine
end

