-- ==== Sys2Proof/Machine/Control.lean ====
section
/-! DEFINITION. Control.lean: the control commands LOCK and CLRERR (`40_calibration_control.md`). -/

namespace Sys2Proof.Machine

/-- LOCK (R90): E_LOCKED when already locked, tested first; E_SEQ when some calibration byte has not been written since
reset; else `CALV <- 1`. The CAL bytes are not examined. -/
def execLock (s : State) : Host.Outcome State Fault Refusal :=
  if s.calv then .next (s.raise .write .locked)
  else if allCalWritten s then .next s.lockCal.okWrite
  else .next (s.raise .write .seq)

/-- CLRERR (R91): clears ERR and ECAUSE, locked or not; it always succeeds. -/
def execClrerr (s : State) : Host.Outcome State Fault Refusal := .next s.clearErrors.okWrite

end Sys2Proof.Machine
end

