-- ==== Sys2Proof/Machine/Pressure.lean ====
section
/-! DEFINITION. Pressure.lean: CPRES, the pressure compensation chain (`42_pressure.md`). Each intermediate of R120's
pseudocode is one definition: up to `B7` over the state the command starts in, from `p` on over the integers. None of
them is state (`10_state.md` R41). -/

namespace Sys2Proof.Machine

/-- `B6 = B5 - 4000` (R124). -/
def presB6 (s : State) : Int := s.b5.toInt - 4000

/-- `s0 = B6 * B6` (R125). -/
def presS0 (s : State) : Int := presB6 s * presB6 s

/-- `s1 = s0 >> 12` (R125), used by R126 and R131. -/
def presS1 (s : State) : Int := asr (presS0 s) 12

/-- `a0 = coef(B2) * s1` (R126). -/
def presA0 (s : State) : Int := coef s .B2 * presS1 s

/-- `X1a = a0 >> 11` (R126). -/
def presX1a (s : State) : Int := asr (presA0 s) 11

/-- `a1 = coef(AC2) * B6` (R127). -/
def presA1 (s : State) : Int := coef s .AC2 * presB6 s

/-- `X2a = a1 >> 11` (R127). -/
def presX2a (s : State) : Int := asr (presA1 s) 11

/-- `X3a = X1a + X2a` (R128). -/
def presX3a (s : State) : Int := presX1a s + presX2a s

/-- `b0 = coef(AC1) * 4 + X3a` (R129). -/
def presB0 (s : State) : Int := coef s .AC1 * 4 + presX3a s

/-- `b1 = b0 << m` (R129). -/
def presB1 (s : State) : Int := shl (presB0 s) (modeLevel s)

/-- `B3 = (b1 + 2) >> 2` (R129). -/
def presB3 (s : State) : Int := asr (presB1 s + 2) 2

/-- `c0 = coef(AC3) * B6` (R130). -/
def presC0 (s : State) : Int := coef s .AC3 * presB6 s

/-- `X1b = c0 >> 13` (R130). -/
def presX1b (s : State) : Int := asr (presC0 s) 13

/-- `c1 = coef(B1) * s1` (R131). -/
def presC1 (s : State) : Int := coef s .B1 * presS1 s

/-- `X2b = c1 >> 16` (R131). -/
def presX2b (s : State) : Int := asr (presC1 s) 16

/-- `c2 = X1b + X2b + 2` (R132). -/
def presC2 (s : State) : Int := presX1b s + presX2b s + 2

/-- `X3b = c2 >> 2` (R132). -/
def presX3b (s : State) : Int := asr (presC2 s) 2

/-- `e0 = X3b + 32768` (R133). -/
def presE0 (s : State) : Int := presX3b s + 32768

/-- `e1 = coef(AC4) * e0` (R133). -/
def presE1 (s : State) : Int := coef s .AC4 * presE0 s

/-- `B4 = e1 >> 15` (R133): signed; nothing is reinterpreted as unsigned. -/
def presB4 (s : State) : Int := asr (presE1 s) 15

/-- `k = 50000 >> m` (R134). -/
def presK (s : State) : Int := asr 50000 (modeLevel s)

/-- `f0 = UP - B3` (R134). -/
def presF0 (s : State) : Int := rawPressure s - presB3 s

/-- `B7 = f0 * k` (R134): a signed exact integer. -/
def presB7 (s : State) : Int := presF0 s * presK s

/-- `br = (B7 >= 2^31)` (R136): a signed comparison of the exact integer. -/
def branchOf (b7 : Int) : Bool := decide (2147483648 ≤ b7)

/-- `p` (R136): doubling before dividing when `br = 0`, dividing before doubling when `br = 1`. -/
def pressOf (b7 b4 : Int) : Int := if branchOf b7 then fdiv b7 b4 * 2 else fdiv (b7 * 2) b4

/-- `q = p >> 8` (R137). -/
def tailQ (p : Int) : Int := asr p 8

/-- `g1 = (q * q) * 3038` (R137). -/
def tailG1 (p : Int) : Int := tailQ p * tailQ p * 3038

/-- `X1c = g1 >> 16` (R137). -/
def tailX1c (p : Int) : Int := asr (tailG1 p) 16

/-- `X2c = (-7357 * p) >> 16` (R138). -/
def tailX2c (p : Int) : Int := asr (-7357 * p) 16

/-- `h1 = X1c + X2c + 3791` (R139). -/
def tailH1 (p : Int) : Int := tailX1c p + tailX2c p + 3791

/-- `pp = p + (h1 >> 4)`, the pressure in Pascal (R139). -/
def pascalOf (p : Int) : Int := p + asr (tailH1 p) 4

/-- `p` of the command that starts in `s` (R136). -/
def presP (s : State) : Int := pressOf (presB7 s) (presB4 s)

/-- `pp` of the command that starts in `s` (R139). -/
def presPP (s : State) : Int := pascalOf (presP s)

/-- CPRES (R120): E_SEQ unless the precondition R121 holds; then SBW is cleared (R122) whatever follows; `B4 = 0` clears
PV and raises E_DIV0 (R135); a `pp` outside 32 bits clears PV and raises E_RANGE (R140); else P, PV and BR are committed
together (R141). TV, B5, T and OSS are not touched. -/
def execCpres (s : State) : Host.Outcome State Fault Refusal :=
  if cpresReady s then
    if presB4 s = 0 then .next (s.consumeSample.dropPressure.raise .write .div0)
    else if fits32 (presPP s) then .next (s.consumeSample.commitPressure (presPP s) (branchOf (presB7 s))).okWrite
    else .next (s.consumeSample.dropPressure.raise .write .range)
  else .next (s.raise .write .seq)

end Sys2Proof.Machine
end

