-- ==== Sys2Proof/Machine/Temperature.lean ====
section
/-! DEFINITION. Temperature.lean: CTEMP, the temperature compensation chain (`41_temperature.md`). Each intermediate of
R100's pseudocode is one definition over the state the command starts in; none of them is state (`10_state.md` R41). -/

namespace Sys2Proof.Machine

/-- `t0 = UT - coef(AC6)` (R104). -/
def tempT0 (s : State) : Int := rawTemp s - coef s .AC6

/-- `t1 = t0 * coef(AC5)` (R104). -/
def tempT1 (s : State) : Int := tempT0 s * coef s .AC5

/-- `X1t = t1 >> 15` (R104). -/
def tempX1 (s : State) : Int := asr (tempT1 s) 15

/-- `d = X1t + coef(MD)` (R105). -/
def tempD (s : State) : Int := tempX1 s + coef s .MD

/-- `n = coef(MC) << 11` (R106). -/
def tempN (s : State) : Int := shl (coef s .MC) 11

/-- `X2t = n fdiv d` (R106). -/
def tempX2 (s : State) : Int := fdiv (tempN s) (tempD s)

/-- `b5 = X1t + X2t` (R107). -/
def tempB5 (s : State) : Int := tempX1 s + tempX2 s

/-- `t = (b5 + 8) >> 4` (R108). -/
def tempT (s : State) : Int := asr (tempB5 s + 8) 4

/-- CTEMP (R100): E_SEQ unless the precondition R101 holds; then SBW and PV are cleared (R102) whatever follows; a zero
divisor clears TV and raises E_DIV0 (R105); else B5, T and TV are committed together (R109). -/
def execCtemp (s : State) : Host.Outcome State Fault Refusal :=
  if ctempReady s then
    if tempD s = 0 then .next (s.consumeSample.dropPressure.dropTemperature.raise .write .div0)
    else .next (s.consumeSample.dropPressure.commitTemperature (tempB5 s) (tempT s)).okWrite
  else .next (s.raise .write .seq)

end Sys2Proof.Machine
end

