-- ==== Sys2Proof/Machine/Dispatch.lean ====
section
/-! DEFINITION. Dispatch.lean: `exec`, one arm per command (`30_encoding.md` R72). -/

namespace Sys2Proof.Machine

/-- What a command does to the state (R90, R91, R100, R120). -/
def exec (i : Instr) (s : State) : Host.Outcome State Fault Refusal :=
  match i with
  | .lock => Sys2Proof.Machine.execLock s
  | .clrerr => Sys2Proof.Machine.execClrerr s
  | .ctemp => Sys2Proof.Machine.execCtemp s
  | .cpres => Sys2Proof.Machine.execCpres s

end Sys2Proof.Machine
end

