-- ==== Sys2Proof/Machine/RegMap.lean ====
section
/-! DEFINITION. RegMap.lean: the register map of the 256-byte address space (`20_memory.md` R50, R51) and the value a
read of one address delivers (R54, R55). -/

namespace Sys2Proof.Machine

/-- A mapped byte of the register space (R51). -/
inductive Reg where
  /-- 0x00, write-only, no storage (R36). -/
  | cmd
  /-- 0x01 (R29). -/
  | oss
  /-- 0x02 (R37). -/
  | status
  /-- 0x03 (R38). -/
  | err
  /-- 0x04 (R39). -/
  | ecause
  /-- 0x05..0x07, byte `k` of CALW, most significant first (R54). -/
  | calw (k : Fin 3)
  /-- 0x10..0x13, byte `j` of B5 (R55). -/
  | b5 (j : Fin 4)
  /-- 0x14..0x17, byte `j` of T (R55). -/
  | t (j : Fin 4)
  /-- 0x18..0x1B, byte `j` of P (R55). -/
  | p (j : Fin 4)
  /-- 0xAA..0xBF, `CAL[i]` (R21). -/
  | cal (i : Fin 22)
  /-- 0xF6..0xF8, `SB[j]` (R27). -/
  | sb (j : Fin 3)
deriving DecidableEq, Repr

/-- The register at an address; none where the address is unmapped (R51). -/
def regAt (a : Addr) : Option Reg :=
  if a.toNat = 0x00 then some .cmd
  else if a.toNat = 0x01 then some .oss
  else if a.toNat = 0x02 then some .status
  else if a.toNat = 0x03 then some .err
  else if a.toNat = 0x04 then some .ecause
  else if h : 0x05 ≤ a.toNat ∧ a.toNat ≤ 0x07 then some (.calw ⟨a.toNat - 0x05, by omega⟩)
  else if h : 0x10 ≤ a.toNat ∧ a.toNat ≤ 0x13 then some (.b5 ⟨a.toNat - 0x10, by omega⟩)
  else if h : 0x14 ≤ a.toNat ∧ a.toNat ≤ 0x17 then some (.t ⟨a.toNat - 0x14, by omega⟩)
  else if h : 0x18 ≤ a.toNat ∧ a.toNat ≤ 0x1B then some (.p ⟨a.toNat - 0x18, by omega⟩)
  else if h : 0xAA ≤ a.toNat ∧ a.toNat ≤ 0xBF then some (.cal ⟨a.toNat - 0xAA, by omega⟩)
  else if h : 0xF6 ≤ a.toNat ∧ a.toNat ≤ 0xF8 then some (.sb ⟨a.toNat - 0xF6, by omega⟩)
  else none

/-- The address of a register byte (R51). -/
def Reg.addr : Reg → Addr
  | .cmd => 0x00
  | .oss => 0x01
  | .status => 0x02
  | .err => 0x03
  | .ecause => 0x04
  | .calw k => BitVec.ofNat 8 (0x05 + k.val)
  | .b5 j => BitVec.ofNat 8 (0x10 + j.val)
  | .t j => BitVec.ofNat 8 (0x14 + j.val)
  | .p j => BitVec.ofNat 8 (0x18 + j.val)
  | .cal i => BitVec.ofNat 8 (0xAA + i.val)
  | .sb j => BitVec.ofNat 8 (0xF6 + j.val)

/-- A byte guarded by a valid flag: refused with E_NOTVALID when the flag is 0 (R55). -/
def guardedByte (valid : Bool) (d : Byte) : Except ErrCode Byte := if valid then .ok d else .error .notvalid

/-- What a read of one register byte delivers: its data, or the code it is refused with (R52, R54, R55). -/
def peekReg (r : Reg) (s : State) : Except ErrCode Byte :=
  match r with
  | .cmd => .error .access
  | .oss => .ok (s.oss.setWidth 8)
  | .status => .ok (statusByte s)
  | .err => .ok s.err
  | .ecause => .ok (s.ecause.setWidth 8)
  | .calw k => .ok (byteBE 3 (calwWord s) k.val)
  | .b5 j => guardedByte s.tv (byteBE 4 s.b5 j.val)
  | .t j => guardedByte s.tv (byteBE 4 s.t j.val)
  | .p j => guardedByte s.pv (byteBE 4 s.p j.val)
  | .cal i => .ok s.cal[i]
  | .sb j => .ok s.sb[j]

/-- What a read of an address delivers, without the record a refusal leaves: the model's read of one byte (R52, R60). -/
def peek (a : Addr) (s : State) : Except ErrCode Byte :=
  match regAt a with
  | none => .error .access
  | some r => peekReg r s

end Sys2Proof.Machine
end

