-- ==== Sys2Proof/Machine/Port.lean ====
section
/-! DEFINITION. Port.lean: the host port: `MemRead` and `MemWrite` (`20_memory.md` R52, R53, R56 to R60) and the reset
input (`70_reset_and_hazards.md` R190, R192). -/

namespace Sys2Proof.Machine

/-- Host read `MemRead(a, 1)` (R52): the data byte and code 0, and no state changes; or a refusal, with data 0x00. -/
def memRead (a : Addr) (s : State) : State :=
  match peek a s with
  | .ok d => s.okRead d
  | .error e => s.raise .read e

/-- Write to CMD (R59): decode the byte and execute that command to completion; E_CMD when it encodes none (R73). -/
def writeCmd (d : Byte) (s : State) : Host.Outcome State Fault Refusal :=
  match decode d with
  | .ok i => exec i s
  | .error _ => .next (s.raise .write .cmd)

/-- Write to OSS (R58): E_MODE when `d > 3`, and OSS keeps its value. -/
def writeOss (d : Byte) (s : State) : State :=
  if d.toNat ≤ 3 then (s.putOss (d.setWidth 2)).okWrite else s.raise .write .mode

/-- Write to CAL (R56): E_LOCKED when `CALV = 1`. -/
def writeCal (i : Fin 22) (d : Byte) (s : State) : State :=
  if s.calv then s.raise .write .locked else (s.putCal i d).okWrite

/-- Write to SB (R57): never refused. -/
def writeSb (j : Fin 3) (d : Byte) (s : State) : State := (s.putSb j d).okWrite

/-- Host write `MemWrite(a, 1, d)` (R53): E_ACCESS first (R60), else the rule of the register. -/
def memWrite (a : Addr) (d : Byte) (s : State) : Host.Outcome State Fault Refusal :=
  match regAt a with
  | some .cmd => writeCmd d s
  | some .oss => .next (writeOss d s)
  | some (.cal i) => .next (writeCal i d s)
  | some (.sb j) => .next (writeSb j d s)
  | some .status => .next (s.raise .write .access)
  | some .err => .next (s.raise .write .access)
  | some .ecause => .next (s.raise .write .access)
  | some (.calw _) => .next (s.raise .write .access)
  | some (.b5 _) => .next (s.raise .write .access)
  | some (.t _) => .next (s.raise .write .access)
  | some (.p _) => .next (s.raise .write .access)
  | none => .next (s.raise .write .access)

/-- One transaction at the port (R70). -/
def transact (t : Transaction) (s : State) : Host.Outcome State Fault Refusal :=
  match t with
  | .read a => .next (memRead a s)
  | .write a d => memWrite a d s

/-- One input of the engine. While reset is applied it accepts no transaction, and a run that issues one has no meaning
(R192, U3; log entry 2). -/
def hostEvent (e : HostEvent) (s : State) : Host.Outcome State Fault Refusal :=
  match e with
  | .resetApply => .next s.applyReset
  | .resetRelease => .next s.releaseReset
  | .transaction t => if s.resetApplied then .refused .transactionDuringReset else transact t s

/-- The write that carries a command byte: the one way a command reaches the engine (R59, R71). -/
def commandWrite (d : Byte) : HostEvent := .transaction (.write 0x00 d)

end Sys2Proof.Machine
end

