-- ==== Sys2Proof/Machine/Step.lean ====
section
/-! DEFINITION. Step.lean: one step of the machine: the next input is taken in the order in which the host issues them,
each with its whole effect (`20_memory.md` R64); with no input pending the state does not change (`00_scope.md` R14). -/

namespace Sys2Proof.Machine

/-- One step. The engine has no step of its own (R14): it takes the first pending input; with none it waits. -/
def step (s : State) : Host.Outcome State Fault Refusal :=
  match s.inputs with
  | [] => .next s
  | e :: es => hostEvent e (s.withInputs es)

/-- `s` with the command byte `w` as its very next input: the engine fetches nothing (R2, R66), a command byte is consumed
by the write that carries it (R59). The reset input is released, since a transaction needs that (log entry 4). -/
def State.withFetchWord (s : State) (_nbits w : Nat) : State :=
  { s with resetApplied := false, inputs := commandWrite (BitVec.ofNat 8 w) :: s.inputs }

end Sys2Proof.Machine
end

