-- ==== Sys2Proof/Safety.lean ====
section
/-! DEFINITION. Safety.lean: what counts as a safe run, in the terms the statements use: the invariants of
`10_state.md` R42, and which inputs keep to the rule that no transaction is issued during reset
(`70_reset_and_hazards.md` R192). -/

namespace Sys2Proof.Machine

/-- The invariants of R42 (a), (b), (c), (e), and beside them what else every step keeps: an empty ECAUSE means an empty
log (R38, R39), B5 is in CTEMP's range (R110), and T is the rounding of B5 (R31). R42 (d) and (f) hold of every state by
the way STATUS is composed and by the width of OSS. -/
abbrev EngineInv (s : State) : Prop :=
  (s.tv = true → s.calv = true) ∧
  (s.pv = true → s.tv = true) ∧
  (s.calv = true → ∀ i < 22, s.calw.getLsbD i = true) ∧
  (s.ecause ≠ 0 → s.err.getLsbD (s.ecause.toNat - 1) = true) ∧
  (s.ecause = 0 → s.err = 0) ∧
  (-67141633 ≤ s.b5.toInt ∧ s.b5.toInt ≤ 67141633) ∧
  s.t.toInt = asr (s.b5.toInt + 8) 4

/-- No input of the list applies reset. -/
def noReset : List HostEvent → Bool
  | [] => true
  | .resetApply :: _ => false
  | .resetRelease :: es => noReset es
  | .transaction _ :: es => noReset es

/-- No transaction of the list is issued while reset is applied (R192); `applied` is the reset input before the list. -/
def inputsLegal (applied : Bool) : List HostEvent → Bool
  | [] => true
  | .resetApply :: es => inputsLegal true es
  | .resetRelease :: es => inputsLegal false es
  | .transaction _ :: es => !applied && inputsLegal applied es

/-- A run of `n` steps is safe when it neither faults nor is refused. -/
def SafeRun (n : Nat) (s : State) : Prop := ∃ s', Host.Core.run Sys2Proof.core n s = .next s'

end Sys2Proof.Machine
end

