-- ==== Sys2Proof/Machine/Script.lean ====
section
/-! DEFINITION. Script.lean: the host's side as the spec gives it: the script notation and its pseudo-instructions
(`30_encoding.md` R77, R78), the initialisation sequence and the per-reading sequences
(`70_reset_and_hazards.md` R193, R194). They are lists of transactions; the engine sees only those. -/

namespace Sys2Proof.Machine

/-- A line of a host script (R77, R78). Numbers are as the host writes them, before they become bytes. -/
inductive ScriptLine where
  /-- `WR a, d`. -/
  | wr (a d : Nat)
  /-- `RD a`. -/
  | rd (a : Nat)
  /-- `LOCK`, `CLRERR`, `CTEMP`, `CPRES`. -/
  | command (i : Instr)
  /-- `MODE m`. -/
  | mode (m : Nat)
  /-- `CALB b0, ..., b21`. -/
  | calb (bytes : List Nat)
  /-- `CALW16 w0, ..., w10`, each word reduced modulo 2^16. -/
  | calw16 (words : List Int)
  /-- `SMP2 b0, b1`. -/
  | smp2 (b0 b1 : Nat)
  /-- `SMP3 b0, b1, b2`. -/
  | smp3 (b0 b1 b2 : Nat)
  /-- `TEMP ut`. -/
  | temp (ut : Nat)
  /-- `PRES raw`. -/
  | pres (raw : Nat)
  /-- `RD16 a`. -/
  | rd16 (a : Nat)
  /-- `RD24 a`. -/
  | rd24 (a : Nat)
  /-- `RD32 a`. -/
  | rd32 (a : Nat)
deriving DecidableEq, Repr

/-- A host number at the 8-bit data port: `value & 0xFF` (R53). -/
def hostByte (v : Nat) : Byte := BitVec.ofNat 8 v

/-- Writes of bytes to ascending addresses from `a`. -/
def writesFrom (a : Nat) : List Byte → List Transaction
  | [] => []
  | d :: ds => .write (hostByte a) d :: writesFrom (a + 1) ds

/-- `n` reads at increasing addresses from `a` (R62, R78). -/
def readsFrom (a : Nat) : Nat → List Transaction
  | 0 => []
  | n + 1 => .read (hostByte a) :: readsFrom (a + 1) n

/-- The two bytes of a 16-bit word, the more significant first, of an integer reduced modulo 2^16 (R78). -/
def wordBytes (w : Int) : List Byte :=
  let v := (w % 65536).toNat
  [hostByte (v / 256), hostByte v]

/-- A command as its write to CMD (R77). -/
def commandTransaction (i : Instr) : Transaction := .write 0x00 (encode i)

/-- Address of `CAL[0]` (R51). -/
def calBase : Nat := 0xAA

/-- Address of `SB[0]` (R51). -/
def sbBase : Nat := 0xF6

/-- The transactions a script line stands for (R77, R78). -/
def ScriptLine.expand : ScriptLine → List Transaction
  | .wr a d => [.write (hostByte a) (hostByte d)]
  | .rd a => [.read (hostByte a)]
  | .command i => [commandTransaction i]
  | .mode m => [.write 0x01 (hostByte m)]
  | .calb bytes => writesFrom calBase (bytes.map hostByte)
  | .calw16 words => writesFrom calBase (words.flatMap wordBytes)
  | .smp2 b0 b1 => writesFrom sbBase [hostByte b0, hostByte b1]
  | .smp3 b0 b1 b2 => writesFrom sbBase [hostByte b0, hostByte b1, hostByte b2]
  | .temp ut => writesFrom sbBase [hostByte (ut / 256), hostByte ut] ++ [commandTransaction .ctemp]
  | .pres raw =>
    writesFrom sbBase [hostByte (raw / 65536), hostByte (raw / 256), hostByte raw] ++ [commandTransaction .cpres]
  | .rd16 a => readsFrom a 2
  | .rd24 a => readsFrom a 3
  | .rd32 a => readsFrom a 4

/-- Transactions as inputs of the engine. -/
def asInputs (ts : List Transaction) : List HostEvent := ts.map .transaction

/-- The big-endian concatenation of the bytes read (R78). -/
def bigEndianValue (bytes : List Byte) : Nat := bytes.foldl (fun v b => v * 256 + b.toNat) 0

/-- `RD32` of B5, T or P is read as `sext_32` (R78). -/
def signedValue32 (bytes : List Byte) : Int := (BitVec.ofNat 32 (bigEndianValue bytes)).toInt

/-- Step (4) of R193: the optional write of OSS. -/
def modeWrite : Option (BitVec 2) → List Transaction
  | none => []
  | some m => [.write 0x01 (m.setWidth 8)]

/-- The initialisation sequence after the host has read the sensor's chip identifier and the 22-byte block (R193, R92):
on a mismatch nothing is issued; else the block is loaded, LOCK is issued, and optionally OSS is written. -/
def initSequence (chipId : Byte) (block : List Byte) (mode : Option (BitVec 2)) : List Transaction :=
  if chipId = Config.chipIdExpected then
    writesFrom calBase block ++ [commandTransaction .lock] ++ modeWrite mode
  else []

/-- The engine's side of a temperature reading (R194): the two sample bytes, CTEMP, the four reads of T. -/
def temperatureReading (b0 b1 : Byte) : List Transaction :=
  writesFrom sbBase [b0, b1] ++ [commandTransaction .ctemp] ++ readsFrom 0x14 4

/-- The engine's side of a pressure reading (R194): the whole temperature sequence first, then the three sample bytes
copied unshifted, CPRES, the four reads of P. OSS must hold the mode of the conversion (R196), which is the host's duty. -/
def pressureReading (t0 t1 p0 p1 p2 : Byte) : List Transaction :=
  temperatureReading t0 t1 ++ writesFrom sbBase [p0, p1, p2] ++ [commandTransaction .cpres] ++ readsFrom 0x18 4

/-- The hexadecimal digits, 0 first. -/
def hexDigits : List Char := ['0', '1', '2', '3', '4', '5', '6', '7', '8', '9', 'A', 'B', 'C', 'D', 'E', 'F']

/-- One hexadecimal digit. -/
def hexDigit (d : BitVec 4) : Char := hexDigits.getD d.toNat '0'

/-- A byte as two hexadecimal digits (R77). -/
def hexByte (b : Byte) : List Char := [hexDigit (b.extractLsb' 4 4), hexDigit (b.extractLsb' 0 4)]

/-- The hexadecimal digits with small letters, which a line may hold as well (log entry 14). -/
def smallHexDigits : List Char := ['0', '1', '2', '3', '4', '5', '6', '7', '8', '9', 'a', 'b', 'c', 'd', 'e', 'f']

/-- The value of a hexadecimal digit, capital or small. -/
def hexValue (c : Char) : Option (BitVec 4) :=
  ((hexDigits.idxOf? c).or (smallHexDigits.idxOf? c)).map (BitVec.ofNat 4)

/-- The byte of two hexadecimal digits. -/
def hexPair (h l : Char) : Option Byte :=
  match hexValue h, hexValue l with
  | some x, some y => some (x ++ y)
  | _, _ => none

/-- The encoding of a script line's transaction: `W aa dd` or `R aa` (R77). -/
def renderTransaction : Transaction → List Char
  | .write a d => ['W', ' '] ++ hexByte a ++ [' '] ++ hexByte d
  | .read a => ['R', ' '] ++ hexByte a

/-- The transaction of a line `W aa dd` or `R aa` (R77). -/
def parseTransaction : List Char → Option Transaction
  | ['W', ' ', h, l, ' ', h', l'] =>
    match hexPair h l, hexPair h' l' with
    | some a, some d => some (.write a d)
    | _, _ => none
  | ['R', ' ', h, l] => (hexPair h l).map .read
  | _ => none

end Sys2Proof.Machine
end

