-- ==== Sys2Proof/WellFormed.lean ====
section
/-! DEFINITION. WellFormed.lean: which commands and which lines of a host script the spec allows. A command has no
operand field (`30_encoding.md` R71), so every command is well formed; the checks are on the numbers of a script line
(R77, R78), which become bytes only at the port. -/

namespace Sys2Proof

/-- Every command is well formed: it has no operand, no immediate and no register number (R71). -/
def Instr.wellFormed : Instr → Bool
  | .lock => true
  | .clrerr => true
  | .ctemp => true
  | .cpres => true

namespace Machine

/-- A number that is a byte (R9). -/
def isByte (n : Nat) : Bool := decide (n < 256)

/-- A script line whose numbers have the widths R77 and R78 give them. `MODE m` takes any byte: a value above 3 is a
legal transaction, which the engine refuses (R58). -/
def ScriptLine.wellFormed : ScriptLine → Bool
  | .wr a d => isByte a && isByte d
  | .rd a => isByte a
  | .command i => i.wellFormed
  | .mode m => isByte m
  | .calb bytes => bytes.length == 22 && bytes.all isByte
  | .calw16 words => words.length == 11
  | .smp2 b0 b1 => isByte b0 && isByte b1
  | .smp3 b0 b1 b2 => isByte b0 && isByte b1 && isByte b2
  | .temp ut => decide (ut < 2 ^ 16)
  | .pres raw => decide (raw < 2 ^ 24)
  | .rd16 a => isByte (a + 1)
  | .rd24 a => isByte (a + 2)
  | .rd32 a => isByte (a + 3)

end Machine

end Sys2Proof
end

