-- ==== Sys2Proof/Certificates/Slice0/Obligations.lean ====
section
/-! DEFINITION. Obligations.lean: the statements. The vocabulary of `Sys2Proof.Rule` says in the spec's own arithmetic
(products, sums, and quotients fixed by inequalities) what the rules say; the statements compare the machine with it. -/

namespace Sys2Proof.Rule

open Sys2Proof.Machine

/-- R11: `q` is the floor quotient of `a` by `b`, `q <= a/b < q + 1`, written without a division. -/
abbrev FloorQuot (a b q : Int) : Prop :=
  b ≠ 0 ∧ (0 < b → q * b ≤ a ∧ a < (q + 1) * b) ∧ (b < 0 → (q + 1) * b < a ∧ a ≤ q * b)

/-- Two bytes as an unsigned 16-bit number, the first the more significant (R24). -/
def u16 (hi lo : Byte) : Int := 256 * (hi.toNat : Int) + lo.toNat

/-- Two bytes as a two's-complement 16-bit number (R10, R24). -/
def s16 (hi lo : Byte) : Int := if u16 hi lo < 32768 then u16 hi lo else u16 hi lo - 65536

/-- The port takes the transaction `t` next, and `es` follow it. -/
abbrev Pending (s : State) (t : Transaction) (es : List HostEvent) : Prop :=
  s.resetApplied = false ∧ s.inputs = .transaction t :: es

/-- R163 for a write: ERR bit `c - 1` set, ECAUSE and response `c`, nothing else changed. -/
def refusedWrite (s : State) (c : Nat) : State :=
  { s with
    err := s.err ||| (1#8 <<< (c - 1))
    ecause := BitVec.ofNat 4 c
    answer := some (.write (BitVec.ofNat 4 c)) }

/-- R163 for a read: as for a write, and the data is 0x00. -/
def refusedRead (s : State) (c : Nat) : State :=
  { s with
    err := s.err ||| (1#8 <<< (c - 1))
    ecause := BitVec.ofNat 4 c
    answer := some (.read 0x00 (BitVec.ofNat 4 c)) }

/-- The state after a read that delivers the value `v` with code OKAY: only the model's own fields change (R52, R54). -/
def delivered (s : State) (es : List HostEvent) (v : Nat) : State :=
  { s with inputs := es, answer := some (.read (BitVec.ofNat 8 v) 0) }

/-- The response code of an answer. -/
def respOf : Answer → Nat
  | .read _ c => c.toNat
  | .write c => c.toNat

/-- The values of the temperature chain, under the names of R100's pseudocode. -/
structure TempValues where
  t0 : Int
  t1 : Int
  x1 : Int
  d : Int
  n : Int
  x2 : Int
  b5 : Int
  t : Int

/-- The values up to the divisor (R103 to R105). -/
abbrev TempDivisor (s : State) (v : TempValues) : Prop :=
  v.t0 = u16 s.sb[0] s.sb[1] - u16 s.cal[10] s.cal[11] ∧
  v.t1 = v.t0 * u16 s.cal[8] s.cal[9] ∧
  FloorQuot v.t1 32768 v.x1 ∧
  v.d = v.x1 + s16 s.cal[20] s.cal[21]

/-- All the values of the chain (R103 to R108). -/
abbrev TempChain (s : State) (v : TempValues) : Prop :=
  TempDivisor s v ∧
  v.n = s16 s.cal[18] s.cal[19] * 2048 ∧
  FloorQuot v.n v.d v.x2 ∧
  v.b5 = v.x1 + v.x2 ∧
  FloorQuot (v.b5 + 8) 16 v.t

/-- The values of the pressure chain up to B7, under the names of R120's pseudocode. -/
structure PresValues where
  up : Int
  b6 : Int
  s0 : Int
  s1 : Int
  a0 : Int
  x1a : Int
  a1 : Int
  x2a : Int
  x3a : Int
  b0 : Int
  b1 : Int
  b2 : Int
  b3 : Int
  c0 : Int
  x1b : Int
  c1 : Int
  x2b : Int
  c2 : Int
  x3b : Int
  e0 : Int
  e1 : Int
  b4 : Int
  k : Int
  f0 : Int
  b7 : Int

/-- The pressure chain up to B7 (R123 to R134). -/
abbrev PresFront (s : State) (v : PresValues) : Prop :=
  FloorQuot (65536 * (s.sb[0].toNat : Int) + 256 * s.sb[1].toNat + s.sb[2].toNat) (2 ^ (8 - s.oss.toNat)) v.up ∧
  v.b6 = s.b5.toInt - 4000 ∧
  v.s0 = v.b6 * v.b6 ∧
  FloorQuot v.s0 4096 v.s1 ∧
  v.a0 = s16 s.cal[14] s.cal[15] * v.s1 ∧
  FloorQuot v.a0 2048 v.x1a ∧
  v.a1 = s16 s.cal[2] s.cal[3] * v.b6 ∧
  FloorQuot v.a1 2048 v.x2a ∧
  v.x3a = v.x1a + v.x2a ∧
  v.b0 = s16 s.cal[0] s.cal[1] * 4 + v.x3a ∧
  v.b1 = v.b0 * 2 ^ s.oss.toNat ∧
  v.b2 = v.b1 + 2 ∧
  FloorQuot v.b2 4 v.b3 ∧
  v.c0 = s16 s.cal[4] s.cal[5] * v.b6 ∧
  FloorQuot v.c0 8192 v.x1b ∧
  v.c1 = s16 s.cal[12] s.cal[13] * v.s1 ∧
  FloorQuot v.c1 65536 v.x2b ∧
  v.c2 = v.x1b + v.x2b + 2 ∧
  FloorQuot v.c2 4 v.x3b ∧
  v.e0 = v.x3b + 32768 ∧
  v.e1 = u16 s.cal[6] s.cal[7] * v.e0 ∧
  FloorQuot v.e1 32768 v.b4 ∧
  FloorQuot 50000 (2 ^ s.oss.toNat) v.k ∧
  v.f0 = v.up - v.b3 ∧
  v.b7 = v.f0 * v.k

/-- R136: `p` from B7 and B4 by the formula the branch selects; `half` is `B7 fdiv B4` where the second is taken. -/
abbrev PresQuotient (b7 b4 half p : Int) : Prop :=
  (b7 < 2147483648 → FloorQuot (b7 * 2) b4 p) ∧
  (2147483648 ≤ b7 → FloorQuot b7 b4 half ∧ p = half * 2)

/-- The values of the pressure chain after `p`. -/
structure TailValues where
  q : Int
  g0 : Int
  g1 : Int
  x1c : Int
  h0 : Int
  x2c : Int
  h1 : Int
  h2 : Int
  pp : Int

/-- The tail of the pressure chain (R137 to R139). -/
abbrev PresTail (p : Int) (v : TailValues) : Prop :=
  FloorQuot p 256 v.q ∧
  v.g0 = v.q * v.q ∧
  v.g1 = v.g0 * 3038 ∧
  FloorQuot v.g1 65536 v.x1c ∧
  v.h0 = -7357 * p ∧
  FloorQuot v.h0 65536 v.x2c ∧
  v.h1 = v.x1c + v.x2c + 3791 ∧
  FloorQuot v.h1 16 v.h2 ∧
  v.pp = p + v.h2

/-- CTEMP's precondition (R101). -/
abbrev TempInputs (s : State) : Prop :=
  s.calv = true ∧ s.sbw.getLsbD 0 = true ∧ s.sbw.getLsbD 1 = true

/-- CPRES's precondition (R121). -/
abbrev PresInputs (s : State) : Prop :=
  s.calv = true ∧ s.tv = true ∧ s.sbw.getLsbD 0 = true ∧ s.sbw.getLsbD 1 = true ∧ s.sbw.getLsbD 2 = true

/-- The state an outcome ends in, changed by `f`. -/
def mapNext (f : State → State) : Host.Outcome State Fault Refusal → Host.Outcome State Fault Refusal
  | .next s => .next (f s)
  | .fault r => .fault r
  | .refused r => .refused r

/-- `s` with other bytes for MB (R25: CAL[16], CAL[17]). -/
def withMB (x y : Byte) (s : State) : State := { s with cal := (s.cal.set 16 x).set 17 y }

/-- `s` with another third sample byte. -/
def withXlsb (x : Byte) (s : State) : State := { s with sb := s.sb.set 2 x }

/-- Two states that differ at most in the error log. -/
abbrev SameButLog (s r : State) : Prop := r = { s with err := r.err, ecause := r.ecause }

/-- Two states that differ at most in the bits U2 calls unobservable: B5 and T while `TV = 0`, P while `PV = 0`. -/
abbrev SameVisible (s r : State) : Prop :=
  r = { s with b5 := r.b5, t := r.t, p := r.p } ∧
  (s.tv = true → r.b5 = s.b5 ∧ r.t = s.t) ∧ (s.pv = true → r.p = s.p)

/-- Is the input a read of STATUS, ERR or ECAUSE, the registers that show the error log? -/
def readsLog : HostEvent → Bool
  | .transaction (.read a) => a == 0x02 || a == 0x03 || a == 0x04
  | .transaction (.write _ _) => false
  | .resetApply => false
  | .resetRelease => false

/-- `n` steps of the machine. -/
abbrev run (n : Nat) (s : State) : Host.Outcome State Fault Refusal := Host.Core.run Sys2Proof.core n s

end Sys2Proof.Rule

open Sys2Proof Sys2Proof.Machine Sys2Proof.Rule

/-! ## Encoding and decoding -/

/-- R72: a byte selects a command exactly when it is the whole byte of the table; the fields are those of R71. -/
def Obligations.DecodeAcceptsExactlyTheTableBytes : Prop :=
  ∀ (b : Byte) (i : Instr), decode b = .ok i ↔
    (b = 0x01 ∧ grpOf b = 0 ∧ fnOf b = 1 ∧ i = .lock) ∨
    (b = 0x02 ∧ grpOf b = 0 ∧ fnOf b = 2 ∧ i = .clrerr) ∨
    (b = 0x20 ∧ grpOf b = 2 ∧ fnOf b = 0 ∧ i = .ctemp) ∨
    (b = 0x21 ∧ grpOf b = 2 ∧ fnOf b = 1 ∧ i = .cpres)

/-- Decoding an encoded command gives it back, through the host's question too, and a command has one byte only. -/
def Obligations.DecodeOfEncodeIsTheCommand : Prop :=
  ∀ i : Instr, i.wellFormed = true →
    decode (encode i) = .ok i ∧
    decodeTableWord 8 (encode i).toNat = some i ∧
    ∀ b, decode b = .ok i → b = encode i

/-- R77: a script line's encoding `W aa dd` or `R aa` is read back as the transaction it stands for. -/
def Obligations.ParsedScriptLineIsTheTransaction : Prop :=
  ∀ t : Transaction, parseTransaction (renderTransaction t) = some t

/-! ## The step and the port -/

/-- R59, R72: a step whose input is a write of a command byte runs exactly that command. -/
def Obligations.StepRunsTheDecodedCommand : Prop :=
  ∀ (s : State) (d : Byte) (i : Instr) (es : List HostEvent),
    s.resetApplied = false → s.inputs = commandWrite d :: es → decode d = .ok i →
    step s = exec i { s with inputs := es }

/-- R73: every other byte written to CMD is refused with E_CMD and changes nothing but ERR and ECAUSE. -/
def Obligations.IllegalCommandByteIsRefused : Prop :=
  ∀ (s : State) (d : Byte) (es : List HostEvent),
    Pending s (.write 0x00 d) es → d ≠ 0x01 → d ≠ 0x02 → d ≠ 0x20 → d ≠ 0x21 →
    step s = .next (refusedWrite { s with inputs := es } 2)

/-- R14: between transactions the state does not change. That a step with no input pending idles is the model's choice
(log entry 1). -/
def Obligations.IdleEngineKeepsItsState : Prop :=
  ∀ s : State, s.inputs = [] → step s = .next s

/-- No step faults, and the only step without meaning is a transaction issued while reset is applied (R192, U3;
log entry 2). -/
def Obligations.StepAnswersUnlessTransactionDuringReset : Prop :=
  ∀ s : State,
    (∃ s', step s = .next s') ∨
    (s.resetApplied = true ∧ (∃ t es, s.inputs = .transaction t :: es) ∧
      step s = .refused .transactionDuringReset)

/-- A host that issues no transaction during reset is answered at every step (R165, R192; the reset input and its refusal
in the form of log entry 2). Steps past the last input are the idle steps of log entry 1. -/
def Obligations.LegalInputsRunSafely : Prop :=
  ∀ (n : Nat) (s : State), inputsLegal s.resetApplied s.inputs = true → SafeRun n s

/-- R60: unmapped addresses, reads of CMD and writes to registers without W are refused with E_ACCESS, whatever the state
and the data. -/
def Obligations.AccessRefusedByAddress : Prop :=
  ∀ (s : State) (a : Addr) (d : Byte) (es : List HostEvent),
    (Pending s (.read a) es →
      (a.toNat = 0x00 ∨ (0x08 ≤ a.toNat ∧ a.toNat ≤ 0x0F) ∨ (0x1C ≤ a.toNat ∧ a.toNat ≤ 0xA9) ∨
        (0xC0 ≤ a.toNat ∧ a.toNat ≤ 0xF5) ∨ 0xF9 ≤ a.toNat) →
      step s = .next (refusedRead { s with inputs := es } 1)) ∧
    (Pending s (.write a d) es →
      ((0x02 ≤ a.toNat ∧ a.toNat ≤ 0xA9) ∨ (0xC0 ≤ a.toNat ∧ a.toNat ≤ 0xF5) ∨ 0xF9 ≤ a.toNat) →
      step s = .next (refusedWrite { s with inputs := es } 1))

/-- R54: the reads that are never refused, register by register; none has a side effect. STATUS stands in
`StatusReadShowsTheFlags`. -/
def Obligations.UnguardedReadsDeliverTheirRegister : Prop :=
  ∀ (s : State) (es : List HostEvent),
    (Pending s (.read 0x01) es → step s = .next (delivered s es s.oss.toNat)) ∧
    (Pending s (.read 0x03) es → step s = .next (delivered s es s.err.toNat)) ∧
    (Pending s (.read 0x04) es → step s = .next (delivered s es s.ecause.toNat)) ∧
    (Pending s (.read 0x05) es → step s = .next (delivered s es (s.calw.toNat / 65536))) ∧
    (Pending s (.read 0x06) es → step s = .next (delivered s es (s.calw.toNat / 256 % 256))) ∧
    (Pending s (.read 0x07) es → step s = .next (delivered s es (s.calw.toNat % 256))) ∧
    (∀ i : Fin 22, Pending s (.read (BitVec.ofNat 8 (0xAA + i.val))) es →
      step s = .next (delivered s es s.cal[i].toNat)) ∧
    (∀ j : Fin 3, Pending s (.read (BitVec.ofNat 8 (0xF6 + j.val))) es →
      step s = .next (delivered s es s.sb[j].toNat))

/-- R37: STATUS is the flags as they stand; its value after reset is 0x00; a write to it is refused with E_ACCESS. -/
def Obligations.StatusReadShowsTheFlags : Prop :=
  (∀ (s : State) (es : List HostEvent), Pending s (.read 0x02) es →
    ∃ d : Byte, step s = .next { s with inputs := es, answer := some (.read d 0) } ∧
      d.getLsbD 0 = s.calv ∧ d.getLsbD 1 = s.tv ∧ d.getLsbD 2 = s.pv ∧ d.getLsbD 3 = s.br ∧
      d.getLsbD 4 = s.sbw.getLsbD 0 ∧ d.getLsbD 5 = s.sbw.getLsbD 1 ∧ d.getLsbD 6 = s.sbw.getLsbD 2 ∧
      d.getLsbD 7 = decide (s.err ≠ 0)) ∧
  peek 0x02 State.reset = .ok 0x00 ∧
  (∀ (s : State) (d : Byte) (es : List HostEvent), Pending s (.write 0x02 d) es →
    step s = .next (refusedWrite { s with inputs := es } 1))

/-- R55: bytes of B5, T and P, most significant first, when the guarding flag is 1; E_NOTVALID and data 0x00 when 0. -/
def Obligations.GuardedReadsNeedTheirFlag : Prop :=
  ∀ (s : State) (j : Fin 4) (es : List HostEvent),
    (Pending s (.read (BitVec.ofNat 8 (0x10 + j.val))) es →
      step s = .next (if s.tv = true then delivered s es (s.b5.toNat / 2 ^ (24 - 8 * j.val) % 256)
        else refusedRead { s with inputs := es } 6)) ∧
    (Pending s (.read (BitVec.ofNat 8 (0x14 + j.val))) es →
      step s = .next (if s.tv = true then delivered s es (s.t.toNat / 2 ^ (24 - 8 * j.val) % 256)
        else refusedRead { s with inputs := es } 6)) ∧
    (Pending s (.read (BitVec.ofNat 8 (0x18 + j.val))) es →
      step s = .next (if s.pv = true then delivered s es (s.p.toNat / 2 ^ (24 - 8 * j.val) % 256)
        else refusedRead { s with inputs := es } 6))

/-- R52, R63: a read that is not refused changes no state; a refused read changes only ERR and ECAUSE and returns 0x00. -/
def Obligations.ReadsChangeOnlyTheErrorLog : Prop :=
  ∀ (s s' : State) (a : Addr) (es : List HostEvent),
    Pending s (.read a) es → step s = .next s' →
    s' = { s with inputs := es, answer := s'.answer, err := s'.err, ecause := s'.ecause } ∧
    ∃ d c, s'.answer = some (.read d c) ∧
      (c = 0 → s'.err = s.err ∧ s'.ecause = s.ecause) ∧ (c ≠ 0 → d = 0x00)

/-- R62, R78: the four reads of a 32-bit result register, joined big-endian and read as `sext_32`, give its value. -/
def Obligations.FourByteReadsReassembleTheResult : Prop :=
  ∀ (s : State) (w : Word) (base : Nat),
    ((base = 0x10 ∧ w = s.b5 ∧ s.tv = true) ∨ (base = 0x14 ∧ w = s.t ∧ s.tv = true) ∨
      (base = 0x18 ∧ w = s.p ∧ s.pv = true)) →
    ∃ d0 d1 d2 d3 : Byte,
      peek (BitVec.ofNat 8 base) s = .ok d0 ∧ peek (BitVec.ofNat 8 (base + 1)) s = .ok d1 ∧
      peek (BitVec.ofNat 8 (base + 2)) s = .ok d2 ∧ peek (BitVec.ofNat 8 (base + 3)) s = .ok d3 ∧
      signedValue32 [d0, d1, d2, d3] = w.toInt

/-- R56: a write to CAL is refused with E_LOCKED when locked; else it stores the byte and sets its CALW flag. -/
def Obligations.CalWriteStoresUntilLocked : Prop :=
  ∀ (s : State) (i : Fin 22) (d : Byte) (es : List HostEvent),
    Pending s (.write (BitVec.ofNat 8 (0xAA + i.val)) d) es →
    (s.calv = true → step s = .next (refusedWrite { s with inputs := es } 4)) ∧
    (s.calv = false → ∃ s', step s = .next s' ∧
      s'.cal[i] = d ∧ (∀ k : Fin 22, k ≠ i → s'.cal[k] = s.cal[k]) ∧
      s'.calw.getLsbD i.val = true ∧ (∀ k : Fin 22, k ≠ i → s'.calw.getLsbD k.val = s.calw.getLsbD k.val) ∧
      s' = { s with inputs := es, answer := some (.write 0), cal := s'.cal, calw := s'.calw })

/-- R57: a write to SB stores the byte and sets its SBW flag, locked or not, and changes no other flag. -/
def Obligations.SampleWriteStoresAlways : Prop :=
  ∀ (s : State) (j : Fin 3) (d : Byte) (es : List HostEvent),
    Pending s (.write (BitVec.ofNat 8 (0xF6 + j.val)) d) es →
    ∃ s', step s = .next s' ∧
      s'.sb[j] = d ∧ (∀ k : Fin 3, k ≠ j → s'.sb[k] = s.sb[k]) ∧
      s'.sbw.getLsbD j.val = true ∧ (∀ k : Fin 3, k ≠ j → s'.sbw.getLsbD k.val = s.sbw.getLsbD k.val) ∧
      s' = { s with inputs := es, answer := some (.write 0), sb := s'.sb, sbw := s'.sbw }

/-- R58: a write to OSS takes the values 0 to 3 and changes nothing else; any other value is refused with E_MODE. -/
def Obligations.ModeWriteTakesZeroToThree : Prop :=
  ∀ (s : State) (d : Byte) (es : List HostEvent),
    Pending s (.write 0x01 d) es →
    (d.toNat ≤ 3 → ∃ s', step s = .next s' ∧ s'.oss.toNat = d.toNat ∧
      s' = { s with inputs := es, answer := some (.write 0), oss := s'.oss }) ∧
    (3 < d.toNat → step s = .next (refusedWrite { s with inputs := es } 3))

/-- The frame of a byte write to CAL, SB or OSS at the bytes a host reads: every address reads as before but the one
stored to, the CALW bytes after a CAL write, STATUS and the error log (R53, R56 to R58). -/
def Obligations.ByteWriteLeavesOtherAddressesAlone : Prop :=
  ∀ (s s' : State) (a b : Addr) (d : Byte) (es : List HostEvent),
    Pending s (.write a d) es → a ≠ 0x00 → step s = .next s' →
    b ≠ a → b ≠ 0x02 → b ≠ 0x03 → b ≠ 0x04 →
    (0xAA ≤ a.toNat → a.toNat ≤ 0xBF → b ≠ 0x05 ∧ b ≠ 0x06 ∧ b ≠ 0x07) →
    peek b s' = peek b s

/-- R63: writes to CAL, SB and OSS are idempotent: the second of two equal ones changes nothing more. -/
def Obligations.ByteWritesAreIdempotent : Prop :=
  ∀ (s : State) (a : Addr) (d : Byte) (es : List HostEvent),
    s.resetApplied = false → a ≠ 0x00 →
    ∃ s', run 1 { s with inputs := .transaction (.write a d) :: es } = .next s' ∧
      run 2 { s with inputs := .transaction (.write a d) :: .transaction (.write a d) :: es } = .next s'

/-! ## Refused transactions -/

/-- R163, R161, R70: what every transaction leaves in its response, ERR and ECAUSE. -/
def Obligations.EveryRefusalIsRecorded : Prop :=
  ∀ (s s' : State) (t : Transaction) (es : List HostEvent),
    Pending s t es → step s = .next s' →
    ∃ a, s'.answer = some a ∧ respOf a ≤ 8 ∧
      (∀ d c, a = .read d c → (∃ x, t = .read x) ∧ (c ≠ 0 → d = 0x00)) ∧
      (∀ c, a = .write c → ∃ x y, t = .write x y) ∧
      (respOf a ≠ 0 → s'.err = s.err ||| (1#8 <<< (respOf a - 1)) ∧ s'.ecause.toNat = respOf a) ∧
      (respOf a = 0 →
        (s'.err = s.err ∧ s'.ecause = s.ecause) ∨ (t = .write 0x00 0x02 ∧ s'.err = 0 ∧ s'.ecause = 0))

/-- R164: which refusals leave all state but ERR and ECAUSE unchanged, and what the other two leave. -/
def Obligations.RefusalLeavesTheStateR164Says : Prop :=
  ∀ (s s' : State) (t : Transaction) (es : List HostEvent) (a : Answer),
    Pending s t es → step s = .next s' → s'.answer = some a → respOf a ≠ 0 →
    (respOf a ≤ 6 → s' = { s with inputs := es, answer := some a, err := s'.err, ecause := s'.ecause }) ∧
    (7 ≤ respOf a → t = .write 0x00 0x20 →
      s' = { s with inputs := es, answer := some a, err := s'.err, ecause := s'.ecause, sbw := 0, pv := false, tv := false }) ∧
    (7 ≤ respOf a → t = .write 0x00 0x21 →
      s' = { s with inputs := es, answer := some a, err := s'.err, ecause := s'.ecause, sbw := 0, pv := false }) ∧
    (7 ≤ respOf a → t = .write 0x00 0x20 ∨ t = .write 0x00 0x21) ∧
    s'.b5 = s.b5 ∧ s'.t = s.t ∧ s'.p = s.p

/-! ## Control commands -/

/-- R90: LOCK, all three of its outcomes. -/
def Obligations.LockSetsCalvOrIsRefused : Prop :=
  ∀ s : State,
    (s.calv = true → exec .lock s = .next (refusedWrite s 4)) ∧
    (s.calv = false → (∃ i : Fin 22, s.calw.getLsbD i.val = false) → exec .lock s = .next (refusedWrite s 5)) ∧
    (s.calv = false → (∀ i : Fin 22, s.calw.getLsbD i.val = true) →
      exec .lock s = .next { s with calv := true, answer := some (.write 0) })

/-- R91: CLRERR clears ERR and ECAUSE and nothing else, always with OKAY; STATUS.EF reads 0 afterwards. -/
def Obligations.ClrerrClearsTheLogOnly : Prop :=
  ∀ s : State, ∃ s',
    exec .clrerr s = .next s' ∧
    s' = { s with err := 0x00, ecause := 0, answer := some (.write 0) } ∧
    ∃ d : Byte, peek 0x02 s' = .ok d ∧ d.getLsbD 7 = false

/-- R63: a write to CMD is not idempotent: after LOCK, CTEMP or CPRES has succeeded, the same command is refused. -/
def Obligations.RepeatedCommandIsRefused : Prop :=
  ∀ (s s' : State) (i : Instr),
    i ≠ .clrerr → exec i s = .next s' → s'.answer = some (.write 0) →
    exec i s' = .next (refusedWrite s' (if i = .lock then 4 else 5))

/-- No command writes the coefficient bytes, their flags, the sample bytes or the mode: every such address reads as
before (R21, R27, R28, R29). -/
def Obligations.CommandsStoreToNoByteRegister : Prop :=
  ∀ (i : Instr) (s s' : State) (a : Addr),
    exec i s = .next s' →
    (a = 0x01 ∨ (0x05 ≤ a.toNat ∧ a.toNat ≤ 0x07) ∨ (0xAA ≤ a.toNat ∧ a.toNat ≤ 0xBF) ∨
      (0xF6 ≤ a.toNat ∧ a.toNat ≤ 0xF8)) →
    peek a s' = peek a s

/-! ## Arithmetic and operands -/

/-- R11: `fdiv` and `>>` give the one quotient with `q <= a/b < q + 1`, for every sign combination, and agree at powers
of two; `<<` multiplies. That the general division is `fdiv` rests on the normative value of `DIV_ROUND` (log entry 5). -/
def Obligations.DivisionAndShiftAreFloor : Prop :=
  (∀ a b q : Int, b ≠ 0 → (FloorQuot a b q ↔ Machine.fdiv a b = q)) ∧
  (∀ (a q : Int) (k : Nat), FloorQuot a (2 ^ k) q ↔ asr a k = q) ∧
  (∀ (a : Int) (k : Nat), Machine.fdiv a (2 ^ k) = asr a k ∧ shl a k = a * 2 ^ k)

/-- R24: the value of each coefficient from its two bytes; AC4, AC5 and AC6 unsigned, the others two's complement. -/
def Obligations.CoefficientsReadTheirTwoBytes : Prop :=
  ∀ s : State,
    coef s .AC1 = s16 s.cal[0] s.cal[1] ∧ coef s .AC2 = s16 s.cal[2] s.cal[3] ∧
    coef s .AC3 = s16 s.cal[4] s.cal[5] ∧ coef s .AC4 = u16 s.cal[6] s.cal[7] ∧
    coef s .AC5 = u16 s.cal[8] s.cal[9] ∧ coef s .AC6 = u16 s.cal[10] s.cal[11] ∧
    coef s .B1 = s16 s.cal[12] s.cal[13] ∧ coef s .B2 = s16 s.cal[14] s.cal[15] ∧
    coef s .MB = s16 s.cal[16] s.cal[17] ∧ coef s .MC = s16 s.cal[18] s.cal[19] ∧
    coef s .MD = s16 s.cal[20] s.cal[21]

/-- R123: the raw pressure is the 24-bit sample shifted right by `8 - m`, in 0..2^(16+m) - 1. -/
def Obligations.RawPressureIsTheShiftedSample : Prop :=
  ∀ s : State,
    rawSample s = 65536 * (s.sb[0].toNat : Int) + 256 * s.sb[1].toNat + s.sb[2].toNat ∧
    FloorQuot (rawSample s) (2 ^ (8 - s.oss.toNat)) (rawPressure s) ∧
    0 ≤ rawPressure s ∧ rawPressure s ≤ 2 ^ (16 + s.oss.toNat) - 1 ∧
    (s.oss = 0 → rawPressure s = u16 s.sb[0] s.sb[1])

/-! ## CTEMP -/

/-- R101: CTEMP is refused with E_SEQ, changing nothing but ERR and ECAUSE, unless its precondition holds, and with the
precondition it never answers E_SEQ. -/
def Obligations.CtempIsRefusedExactlyWithoutItsInputs : Prop :=
  ∀ s : State,
    (¬ TempInputs s → exec .ctemp s = .next (refusedWrite s 5)) ∧
    (TempInputs s → ∀ s', exec .ctemp s = .next s' → s'.answer ≠ some (.write 5))

/-- R103 to R109: CTEMP with its precondition and a divisor that is not 0 commits B5 and T of the chain. The
quotient by `d` is the floor quotient of R106, the normative value of `DIV_ROUND` (log entry 5). -/
def Obligations.CtempCommitsTheChain : Prop :=
  ∀ (s : State) (v : TempValues), TempInputs s → TempChain s v →
    ∃ s', exec .ctemp s = .next s' ∧
      s'.b5.toInt = v.b5 ∧ s'.t.toInt = v.t ∧
      s' = { s with sbw := 0, pv := false, tv := true, b5 := s'.b5, t := s'.t, answer := some (.write 0) }

/-- R105: at a zero divisor CTEMP raises E_DIV0, clears TV, and B5 and T become unreadable; R102's clearing stands. -/
def Obligations.CtempZeroDivisorIsRefused : Prop :=
  ∀ (s : State) (v : TempValues), TempInputs s → TempDivisor s v →
    -163837 ≤ v.d ∧ v.d ≤ 163835 ∧
    (v.d = 0 → ∃ s', exec .ctemp s = .next s' ∧
      s' = refusedWrite { s with sbw := 0, pv := false, tv := false } 7 ∧
      ∀ j < 8, peek (BitVec.ofNat 8 (0x10 + j)) s' = .error .notvalid)

/-- R110: the bounds of the temperature chain for every content of CAL and SB, of the values the machine computes and of
every solution of the rules; CTEMP never raises E_RANGE. At `d = 0` the chain has no value past `d` (R105). -/
def Obligations.TemperatureChainStaysInBounds : Prop :=
  (∀ s : State,
    |tempT1 s| < 2 ^ 32 ∧
    (∀ x ∈ [tempT0 s, tempT1 s, tempX1 s, tempD s, tempN s], -(2 ^ 33) ≤ x ∧ x < 2 ^ 33) ∧
    (tempD s ≠ 0 →
      -67141633 ≤ tempB5 s ∧ tempB5 s ≤ 67141633 ∧ -4196352 ≤ tempT s ∧ tempT s ≤ 4196352 ∧
      ∀ x ∈ [tempX2 s, tempB5 s, tempB5 s + 8, tempT s], -(2 ^ 33) ≤ x ∧ x < 2 ^ 33)) ∧
  (∀ (s : State) (v : TempValues), TempChain s v →
    -67141633 ≤ v.b5 ∧ v.b5 ≤ 67141633 ∧ -4196352 ≤ v.t ∧ v.t ≤ 4196352 ∧ |v.t1| < 2 ^ 32 ∧
    ∀ x ∈ [v.t0, v.t1, v.x1, v.d, v.n, v.x2, v.b5, v.b5 + 8, v.t], -(2 ^ 33) ≤ x ∧ x < 2 ^ 33) ∧
  (∀ s s' : State, exec .ctemp s = .next s' → s'.answer ≠ some (.write 8))

/-! ## CPRES -/

/-- R121: CPRES is refused with E_SEQ, changing nothing but ERR and ECAUSE, unless its precondition holds, in every mode,
and with the precondition it never answers E_SEQ. -/
def Obligations.CpresIsRefusedExactlyWithoutItsInputs : Prop :=
  ∀ s : State,
    (¬ PresInputs s → exec .cpres s = .next (refusedWrite s 5)) ∧
    (PresInputs s → ∀ s', exec .cpres s = .next s' → s'.answer ≠ some (.write 5))

/-- R123 to R141: CPRES with its precondition, B4 not 0 and a pressure that fits commits P and BR of the chain.
The quotient by B4 is the floor quotient of R136, the normative value of `DIV_ROUND` (log entry 5). -/
def Obligations.CpresCommitsTheChain : Prop :=
  ∀ (s : State) (v : PresValues) (half p : Int) (w : TailValues),
    PresInputs s → PresFront s v → v.b4 ≠ 0 → PresQuotient v.b7 v.b4 half p → PresTail p w →
    -2147483648 ≤ w.pp → w.pp ≤ 2147483647 →
    ∃ s', exec .cpres s = .next s' ∧
      s'.p.toInt = w.pp ∧ s'.br = decide (2147483648 ≤ v.b7) ∧
      s' = { s with sbw := 0, pv := true, p := s'.p, br := s'.br, answer := some (.write 0) }

/-- R135: when B4 is 0 CPRES raises E_DIV0 whichever branch B7 would take; P and BR keep their bits, P unreadable. -/
def Obligations.CpresZeroDivisorIsRefused : Prop :=
  ∀ (s : State) (v : PresValues), PresInputs s → PresFront s v → v.b4 = 0 →
    ∃ s', exec .cpres s = .next s' ∧
      s' = refusedWrite { s with sbw := 0, pv := false } 7 ∧
      ∀ j < 4, peek (BitVec.ofNat 8 (0x18 + j)) s' = .error .notvalid

/-- R140: a pressure outside 32 bits is refused with E_RANGE; P and BR keep their bits. -/
def Obligations.CpresOutOfRangeIsRefused : Prop :=
  ∀ (s : State) (v : PresValues) (half p : Int) (w : TailValues),
    PresInputs s → PresFront s v → v.b4 ≠ 0 → PresQuotient v.b7 v.b4 half p → PresTail p w →
    (w.pp < -2147483648 ∨ 2147483647 < w.pp) →
    exec .cpres s = .next (refusedWrite { s with sbw := 0, pv := false } 8)

/-- R140: no `p` gives a pressure below about -5.6 * 10^6, and a pressure above 32 bits needs a `p` far out of range. -/
def Obligations.OnlyLargePressuresAreOutOfRange : Prop :=
  ∀ p : Int, -5600000 ≤ pascalOf p ∧ (2147483647 < pascalOf p → p < -231000000 ∨ 209000000 < p)

/-- R142: the bounds of the values the machine's pressure chain computes up to `p`, for every content of CAL, SB and OSS
and every B5 that CTEMP can leave; all of them fit 64 bits. At `B4 = 0` there is no `p` (R135). -/
def Obligations.PressureChainFitsSixtyFourBits : Prop :=
  ∀ s : State, -67141633 ≤ s.b5.toInt → s.b5.toInt ≤ 67141633 →
    |presB6 s| < 2 ^ 27 ∧ presS0 s < 2 ^ 53 ∧ presS1 s < 2 ^ 41 ∧ |presA0 s| < 2 ^ 56 ∧ |presC1 s| < 2 ^ 56 ∧
    |presX1a s| < 2 ^ 45 ∧ |presA1 s| < 2 ^ 42 ∧ |presC0 s| < 2 ^ 42 ∧ |presX3a s| < 2 ^ 45 ∧ |presB1 s| < 2 ^ 48 ∧
    |presB1 s + 2| < 2 ^ 48 ∧ |presB3 s| < 2 ^ 46 ∧ |presX3b s| < 2 ^ 38 ∧ |presE1 s| < 2 ^ 54 ∧ |presB4 s| < 2 ^ 39 ∧
    |presB7 s| < 2 ^ 58 ∧ (presB4 s ≠ 0 → |presP s| < 2 ^ 59) ∧
    ∀ x ∈ [rawPressure s, presB6 s, presS0 s, presS1 s, presA0 s, presX1a s, presA1 s, presX2a s, presX3a s, presB0 s,
        presB1 s, presB1 s + 2, presB3 s, presC0 s, presX1b s, presC1 s, presX2b s, presC2 s, presX3b s, presE0 s, presE1 s,
        presB4 s, presK s, presF0 s, presB7 s, presB7 s * 2],
      -(2 ^ 63) ≤ x ∧ x < 2 ^ 63

/-- R142: when the pressure the machine computes from `p` fits 32 bits, as in every CPRES that succeeds, every value of
its tail has R142's bound and fits 64 bits. -/
def Obligations.SuccessfulTailFitsSixtyFourBits : Prop :=
  ∀ p : Int, fits32 (pascalOf p) = true →
    |p| < 2 ^ 28 ∧ |tailQ p| < 2 ^ 20 ∧ tailQ p * tailQ p < 2 ^ 40 ∧ tailG1 p < 2 ^ 52 ∧ |-7357 * p| < 2 ^ 41 ∧
    ∀ x ∈ [p, tailQ p, tailQ p * tailQ p, tailG1 p, tailX1c p, -7357 * p, tailX2c p, tailH1 p, asr (tailH1 p) 4, pascalOf p],
      -(2 ^ 63) ≤ x ∧ x < 2 ^ 63

/-- R136, R143: the machine's branch and its `p`. Every `B4` but 0: the branch is the signed comparison with 2^31, below
it `p` is the quotient of `B7 * 2`, from it on twice the quotient of `B7`. For positive `B4` the two formulas differ by at
most 1 at the same `B7`, and `p` does not decrease on either side of 2^31. The quotient is floor (log entry 5). -/
def Obligations.BranchFormulasAgreeWithinOne : Prop :=
  (∀ b7 b4 : Int, b4 ≠ 0 →
    (branchOf b7 = true ↔ 2147483648 ≤ b7) ∧
    (branchOf b7 = false → FloorQuot (b7 * 2) b4 (pressOf b7 b4)) ∧
    (branchOf b7 = true → ∃ half, FloorQuot b7 b4 half ∧ pressOf b7 b4 = half * 2)) ∧
  (∀ b7 b7' b4 : Int, 0 < b4 →
    (Machine.fdiv b7 b4 * 2 ≤ Machine.fdiv (b7 * 2) b4 ∧ Machine.fdiv (b7 * 2) b4 ≤ Machine.fdiv b7 b4 * 2 + 1) ∧
    (b7 ≤ b7' → branchOf b7 = branchOf b7' → pressOf b7 b4 ≤ pressOf b7' b4))

/-- R134, R144 (b): the machine's `k` by the mode, `B7` is a multiple of it, and 2^31 itself is never reached. -/
def Obligations.ThresholdItselfIsNeverReached : Prop :=
  ∀ s : State,
    (s.oss = 0 → presK s = 50000) ∧ (s.oss = 1 → presK s = 25000) ∧ (s.oss = 2 → presK s = 12500) ∧
    (s.oss = 3 → presK s = 6250) ∧ presK s ∣ presB7 s ∧ presB7 s ≠ 2147483648

/-! ## Reset and the locked life of the coefficients -/

/-- R43: the reset state, item by item, and what reads of it return. -/
def Obligations.ResetStateIsTheListedOne : Prop :=
  (∀ i : Fin 22, State.reset.cal[i] = 0x00 ∧ State.reset.calw.getLsbD i.val = false) ∧
  State.reset.calv = false ∧
  (∀ j : Fin 3, State.reset.sb[j] = 0x00 ∧ State.reset.sbw.getLsbD j.val = false) ∧
  State.reset.oss = 0 ∧ State.reset.b5 = 0 ∧ State.reset.t = 0 ∧ State.reset.p = 0 ∧
  State.reset.tv = false ∧ State.reset.pv = false ∧ State.reset.br = false ∧
  State.reset.err = 0x00 ∧ State.reset.ecause = 0 ∧
  (∀ a ∈ [(0x02 : Addr), 0x03, 0x04, 0x01, 0x05, 0x06, 0x07], peek a State.reset = .ok 0x00) ∧
  (∀ j < 12, peek (BitVec.ofNat 8 (0x10 + j)) State.reset = .error .notvalid)

/-- R190: reset gives every item of R20 its reset value, whatever it held. The three own fields of the model (reset input
active, inputs, answer) follow log entries 1, 2 and 3; of the answer this says nothing. -/
def Obligations.ResetSetsEveryItem : Prop :=
  ∀ (s : State) (es : List HostEvent), s.inputs = .resetApply :: es →
    ∃ s', step s = .next s' ∧
      s' = { State.reset with resetApplied := true, inputs := es, answer := s'.answer }

/-- R192: during reset no transaction has a meaning; the first one after reset sees exactly the reset state. -/
def Obligations.TransactionsSeeTheResetStateOnlyAfterRelease : Prop :=
  ∀ (s : State) (t : Transaction) (es : List HostEvent),
    (s.inputs = .resetApply :: .transaction t :: es → run 2 s = .refused .transactionDuringReset) ∧
    (s.inputs = .resetApply :: .resetRelease :: .transaction t :: es →
      run 3 s = transact t { State.reset with inputs := es })

/-- R23, R191: LOCK alone sets CALV, reset alone clears it, and while it is 1 no step changes a CAL byte. -/
def Obligations.OnlyLockSetsAndOnlyResetClearsCalv : Prop :=
  State.reset.calv = false ∧
  ∀ s s' : State, step s = .next s' → (∀ es, s.inputs ≠ .resetApply :: es) →
    (s.calv = true → s'.calv = true ∧ s'.cal = s.cal) ∧
    (s.calv = false → s'.calv = true →
      (∃ es, s.inputs = commandWrite 0x01 :: es) ∧ s'.answer = some (.write 0) ∧
        ∀ i : Fin 22, s.calw.getLsbD i.val = true)

/-- R22: a CALW flag is set by a write of its own byte while unlocked, and cleared by reset alone. -/
def Obligations.CalwRecordsTheWrittenBytes : Prop :=
  ∀ (s s' : State) (i : Fin 22), step s = .next s' → (∀ es, s.inputs ≠ .resetApply :: es) →
    (s.calw.getLsbD i.val = true → s'.calw.getLsbD i.val = true) ∧
    (s.calw.getLsbD i.val = false → s'.calw.getLsbD i.val = true →
      s.calv = false ∧ ∃ d es, s.inputs = .transaction (.write (BitVec.ofNat 8 (0xAA + i.val)) d) :: es ∧ s'.cal[i] = d)

/-- RVM's "immutable after load" over whole runs: while no reset comes, a locked engine keeps every coefficient. -/
def Obligations.LockedCoefficientsNeverChange : Prop :=
  ∀ (n : Nat) (s s' : State), s.calv = true → noReset s.inputs = true → run n s = .next s' →
    s'.calv = true ∧ s'.cal = s.cal ∧ s'.calw = s.calw ∧ ∀ c : CoefName, coef s' c = coef s c

/-- R27 to R32, R35: each result and operand register is written by its own transaction or by reset, and by no other. -/
def Obligations.RegistersAreWrittenOnlyByTheirOwnTransaction : Prop :=
  ∀ s s' : State, step s = .next s' → (∀ es, s.inputs ≠ .resetApply :: es) →
    ((s'.b5 ≠ s.b5 ∨ s'.t ≠ s.t) →
      (∃ es, s.inputs = commandWrite 0x20 :: es) ∧ s'.answer = some (.write 0) ∧ s'.tv = true) ∧
    ((s'.p ≠ s.p ∨ s'.br ≠ s.br) →
      (∃ es, s.inputs = commandWrite 0x21 :: es) ∧ s'.answer = some (.write 0) ∧ s'.pv = true) ∧
    (s'.oss ≠ s.oss → ∃ d es, s.inputs = .transaction (.write 0x01 d) :: es ∧ s'.oss.toNat = d.toNat) ∧
    (∀ j : Fin 3, s'.sb[j] ≠ s.sb[j] →
      ∃ es, s.inputs = .transaction (.write (BitVec.ofNat 8 (0xF6 + j.val)) s'.sb[j]) :: es)

/-- R33, R34: what sets and what clears the valid flags; PV never outlives the B5 it was computed from. -/
def Obligations.ValidFlagsFollowTheResults : Prop :=
  ∀ s s' : State, step s = .next s' → (∀ es, s.inputs ≠ .resetApply :: es) →
    (s.tv = false → s'.tv = true → (∃ es, s.inputs = commandWrite 0x20 :: es) ∧ s'.answer = some (.write 0)) ∧
    (s.tv = true → s'.tv = false → (∃ es, s.inputs = commandWrite 0x20 :: es) ∧ s'.answer = some (.write 7)) ∧
    (s.pv = false → s'.pv = true → (∃ es, s.inputs = commandWrite 0x21 :: es) ∧ s'.answer = some (.write 0)) ∧
    (s.pv = true → s'.pv = false →
      ((∃ es, s.inputs = commandWrite 0x20 :: es) ∧ (s'.answer = some (.write 0) ∨ s'.answer = some (.write 7))) ∨
      ((∃ es, s.inputs = commandWrite 0x21 :: es) ∧ (s'.answer = some (.write 7) ∨ s'.answer = some (.write 8)))) ∧
    (s'.pv = true → s'.b5 = s.b5)

/-! ## Invariants -/

/-- The invariants hold of the reset state. -/
def Obligations.InvariantHoldsAtReset : Prop := EngineInv State.reset

/-- Every step keeps the invariants (R42 (a), (b), (c), (e); R110; R31), from every state that meets them. -/
def Obligations.StepKeepsTheInvariant : Prop :=
  ∀ s s' : State, EngineInv s → step s = .next s' → EngineInv s'

/-- R42: the six invariants hold in every state reached from reset by any inputs. -/
def Obligations.ReachableStatesMeetR42 : Prop :=
  ∀ (n : Nat) (es : List HostEvent) (s : State), run n { State.reset with inputs := es } = .next s →
    (s.tv = true → s.calv = true) ∧
    (s.pv = true → s.tv = true) ∧
    (s.calv = true → ∀ i : Fin 22, s.calw.getLsbD i.val = true) ∧
    ((statusByte s).getLsbD 7 = true ↔ s.err ≠ 0) ∧
    (s.ecause ≠ 0 → s.err.getLsbD (s.ecause.toNat - 1) = true) ∧
    s.oss.toNat ≤ 3

/-! ## What cannot influence what -/

/-- R26: the bytes of MB influence no command: with other bytes there, every command does the same to everything else. -/
def Obligations.NoCommandReadsMB : Prop :=
  ∀ (i : Instr) (s : State) (x y : Byte), exec i (withMB x y s) = mapNext (withMB x y) (exec i s)

/-- R103, R123: CTEMP ignores SB[2] in every mode, and CPRES in mode 0. -/
def Obligations.ThirdSampleByteIsIgnored : Prop :=
  ∀ (s : State) (x : Byte),
    exec .ctemp (withXlsb x s) = mapNext (withXlsb x) (exec .ctemp s) ∧
    (s.oss = 0 → exec .cpres (withXlsb x s) = mapNext (withXlsb x) (exec .cpres s))

/-- R38: ERR and ECAUSE gate nothing: over any run that does not read them, what they hold changes nothing else. -/
def Obligations.ErrorLogGatesNothing : Prop :=
  ∀ (n : Nat) (s r s' : State), SameButLog s r → (∀ e ∈ s.inputs, readsLog e = false) →
    run n s = .next s' → ∃ r', run n r = .next r' ∧ SameButLog s' r'

/-- U2, R55: the bits of B5 and T while TV = 0 and of P while PV = 0 are unobservable over any run: every answer is the
same (the answer is a field the relation keeps equal). -/
def Obligations.UnguardedBitsAreUnobservable : Prop :=
  ∀ (n : Nat) (s r s' : State), SameVisible s r → run n s = .next s' →
    ∃ r', run n r = .next r' ∧ SameVisible s' r'

/-! ## The host's sequences -/

/-- R92, R193: after a chip-identifier match the initialisation sequence loads any block of 22 bytes and locks it; with
the optional write of step (4) it sets OSS as well. That the sequence writes the bytes at ascending addresses is the
model's choice among the orders R193 allows (log entry 9). -/
def Obligations.InitialisationLoadsAndLocksTheBlock : Prop :=
  ∀ (s : State) (chipId : Byte) (block : List Byte) (mode : Option (BitVec 2)) (es : List HostEvent),
    chipId = Config.chipIdExpected → block.length = 22 → s.calv = false → s.resetApplied = false →
    s.inputs = asInputs (initSequence chipId block mode) ++ es →
    ∃ s', run (if mode = none then 23 else 24) s = .next s' ∧
      s'.cal.toList = block ∧ s'.calw = BitVec.allOnes 22 ∧
      s' = { s with inputs := es, answer := some (.write 0), calv := true, oss := mode.getD s.oss, cal := s'.cal, calw := s'.calw }

/-- R92, R193: on a mismatch nothing is issued, and while the block is not locked every chain is refused with E_SEQ. -/
def Obligations.MismatchedChipLeavesEveryChainRefused : Prop :=
  (∀ (chipId : Byte) (block : List Byte) (mode : Option (BitVec 2)),
    chipId ≠ Config.chipIdExpected → initSequence chipId block mode = []) ∧
  ∀ (i : Instr) (s : State), s.calv = false → i = .ctemp ∨ i = .cpres → exec i s = .next (refusedWrite s 5)

/-- R78, R194: the pseudo-instruction `TEMP ut` on a locked engine leaves the temperature of `ut` by the chain
(the floor quotient: log entry 5), the two sample bytes of `ut`, and everything else as it was. -/
def Obligations.TempLineCompensatesItsOperand : Prop :=
  ∀ (s : State) (ut : Nat) (v : TempValues) (es : List HostEvent),
    (ScriptLine.temp ut).wellFormed = true → s.calv = true → s.resetApplied = false →
    s.inputs = asInputs (ScriptLine.temp ut).expand ++ es →
    TempChain { s with sb := (s.sb.set 0 (BitVec.ofNat 8 (ut / 256))).set 1 (BitVec.ofNat 8 (ut % 256)) } v →
    v.t0 = (ut : Int) - u16 s.cal[10] s.cal[11] ∧
    ∃ s', run 3 s = .next s' ∧ s'.b5.toInt = v.b5 ∧ s'.t.toInt = v.t ∧
      s'.sb[0].toNat = ut / 256 ∧ s'.sb[1].toNat = ut % 256 ∧ s'.sb[2] = s.sb[2] ∧
      s' = { s with
        inputs := es, answer := some (.write 0), sb := s'.sb, sbw := 0, pv := false, tv := true, b5 := s'.b5, t := s'.t }
end

