-- ==== Sys2Proof/Laws/Arith.lean ====
section
/-! SUPPORT. Arith.lean: the operators of the chains in terms of the library's integer division, and the bounds a shift
keeps; one lemma or two per operator, so that no later proof unfolds it. -/

namespace Sys2Proof.Machine

/-- `a >> k` is division by `2^k` rounded down (R11). -/
theorem asr_eq_ediv (a : Int) (k : Nat) : asr a k = a / 2 ^ k := by
  simp [asr, Int.shiftRight_eq_div_pow]

/-- The shift by a numeral as a division by a numeral, for `omega`. -/
theorem asr_eq_ediv_of_pow {a : Int} {k : Nat} {b : Int} (h : (2 : Int) ^ k = b) : asr a k = a / b := by
  rw [asr_eq_ediv, h]

/-- What `>>` promises: `q * 2^k ≤ a < (q + 1) * 2^k`. -/
theorem asr_bounds (a : Int) (k : Nat) : asr a k * 2 ^ k ≤ a ∧ a < (asr a k + 1) * 2 ^ k := by
  have hp : (0 : Int) < 2 ^ k := by positivity
  rw [asr_eq_ediv]
  constructor
  · exact Int.ediv_mul_le a hp.ne'
  · exact Int.lt_ediv_add_one_mul_self a hp

/-- A shift keeps an order. -/
theorem asr_mono {a b : Int} (h : a ≤ b) (k : Nat) : asr a k ≤ asr b k := by
  have hp : (0 : Int) < 2 ^ k := by positivity
  rw [asr_eq_ediv, asr_eq_ediv]
  exact Int.ediv_le_ediv hp h

/-- A shift divides a bound on the absolute value. -/
theorem asr_abs_le {a bound : Int} (k : Nat) (h : |a| ≤ bound * 2 ^ k) : |asr a k| ≤ bound := by
  have hp : (0 : Int) < 2 ^ k := by positivity
  obtain ⟨hlo, hhi⟩ := asr_bounds a k
  rw [abs_le] at h ⊢
  constructor
  · exact Int.lt_add_one_iff.1 (lt_of_mul_lt_mul_right (by linarith : -bound * 2 ^ k < (asr a k + 1) * 2 ^ k) hp.le)
  · exact le_of_mul_le_mul_right (by linarith : asr a k * 2 ^ k ≤ bound * 2 ^ k) hp

/-- `<<` is multiplication by a power of two (R11). -/
theorem shl_eq (a : Int) (k : Nat) : shl a k = a * 2 ^ k := rfl

/-- The general division is floor division: the normative value of `DIV_ROUND` (U1). -/
theorem fdiv_eq (a b : Int) : fdiv a b = Int.fdiv a b := rfl

/-- Floor division by a positive number is the library's `/`. -/
theorem fdiv_eq_ediv_of_pos {a b : Int} (h : 0 < b) : fdiv a b = a / b := by
  rw [fdiv_eq, Int.fdiv_eq_ediv_of_nonneg _ h.le]

/-- What `fdiv` promises for a positive divisor (R11). -/
theorem fdiv_bounds_of_pos (a : Int) {b : Int} (h : 0 < b) : fdiv a b * b ≤ a ∧ a < (fdiv a b + 1) * b := by
  rw [fdiv_eq_ediv_of_pos h]
  exact ⟨Int.ediv_mul_le a h.ne', Int.lt_ediv_add_one_mul_self a h⟩

/-- `fdiv` by a positive number keeps an order. -/
theorem fdiv_mono_of_pos {a a' b : Int} (h : 0 < b) (hle : a ≤ a') : fdiv a b ≤ fdiv a' b := by
  rw [fdiv_eq_ediv_of_pos h, fdiv_eq_ediv_of_pos h]
  exact Int.ediv_le_ediv h hle

/-- Two bytes joined, the first the more significant (R24, R61). -/
theorem append_toNat (hi lo : Byte) : (hi ++ lo).toNat = 256 * hi.toNat + lo.toNat := by
  rw [BitVec.toNat_append, ← Nat.shiftLeft_add_eq_or_of_lt lo.isLt, Nat.shiftLeft_eq]
  omega

theorem fits32_iff (x : Int) : fits32 x = true ↔ -2147483648 ≤ x ∧ x ≤ 2147483647 := by
  simp [fits32]

/-- `tc_32` of an integer that fits is read back as that integer (R10). -/
theorem tc32_toInt {x : Int} (h : -2147483648 ≤ x ∧ x ≤ 2147483647) : (tc32 x).toInt = x := by
  rw [tc32, BitVec.toInt_ofInt]
  exact Int.bmod_eq_of_le (by norm_num; omega) (by norm_num; omega)

end Sys2Proof.Machine
end

