-- ==== Sys2Proof/Laws/State.lean ====
section
/-! SUPPORT. State.lean: one lemma per field per named update of Ops.lean, true by `rfl`, so that no later proof unfolds a
record update. -/

namespace Sys2Proof.Machine

namespace State

variable (s : State)

@[simp] theorem answered_cal (a : Answer) : (s.answered a).cal = s.cal := rfl
@[simp] theorem answered_calw (a : Answer) : (s.answered a).calw = s.calw := rfl
@[simp] theorem answered_calv (a : Answer) : (s.answered a).calv = s.calv := rfl
@[simp] theorem answered_sb (a : Answer) : (s.answered a).sb = s.sb := rfl
@[simp] theorem answered_sbw (a : Answer) : (s.answered a).sbw = s.sbw := rfl
@[simp] theorem answered_oss (a : Answer) : (s.answered a).oss = s.oss := rfl
@[simp] theorem answered_b5 (a : Answer) : (s.answered a).b5 = s.b5 := rfl
@[simp] theorem answered_t (a : Answer) : (s.answered a).t = s.t := rfl
@[simp] theorem answered_p (a : Answer) : (s.answered a).p = s.p := rfl
@[simp] theorem answered_tv (a : Answer) : (s.answered a).tv = s.tv := rfl
@[simp] theorem answered_pv (a : Answer) : (s.answered a).pv = s.pv := rfl
@[simp] theorem answered_br (a : Answer) : (s.answered a).br = s.br := rfl
@[simp] theorem answered_err (a : Answer) : (s.answered a).err = s.err := rfl
@[simp] theorem answered_ecause (a : Answer) : (s.answered a).ecause = s.ecause := rfl
@[simp] theorem answered_resetApplied (a : Answer) : (s.answered a).resetApplied = s.resetApplied := rfl
@[simp] theorem answered_inputs (a : Answer) : (s.answered a).inputs = s.inputs := rfl
@[simp] theorem answered_answer (a : Answer) : (s.answered a).answer = some a := rfl

@[simp] theorem okWrite_cal : (s.okWrite).cal = s.cal := rfl
@[simp] theorem okWrite_calw : (s.okWrite).calw = s.calw := rfl
@[simp] theorem okWrite_calv : (s.okWrite).calv = s.calv := rfl
@[simp] theorem okWrite_sb : (s.okWrite).sb = s.sb := rfl
@[simp] theorem okWrite_sbw : (s.okWrite).sbw = s.sbw := rfl
@[simp] theorem okWrite_oss : (s.okWrite).oss = s.oss := rfl
@[simp] theorem okWrite_b5 : (s.okWrite).b5 = s.b5 := rfl
@[simp] theorem okWrite_t : (s.okWrite).t = s.t := rfl
@[simp] theorem okWrite_p : (s.okWrite).p = s.p := rfl
@[simp] theorem okWrite_tv : (s.okWrite).tv = s.tv := rfl
@[simp] theorem okWrite_pv : (s.okWrite).pv = s.pv := rfl
@[simp] theorem okWrite_br : (s.okWrite).br = s.br := rfl
@[simp] theorem okWrite_err : (s.okWrite).err = s.err := rfl
@[simp] theorem okWrite_ecause : (s.okWrite).ecause = s.ecause := rfl
@[simp] theorem okWrite_resetApplied : (s.okWrite).resetApplied = s.resetApplied := rfl
@[simp] theorem okWrite_inputs : (s.okWrite).inputs = s.inputs := rfl
@[simp] theorem okWrite_answer : (s.okWrite).answer = some (.write okay) := rfl

@[simp] theorem okRead_cal (d : Byte) : (s.okRead d).cal = s.cal := rfl
@[simp] theorem okRead_calw (d : Byte) : (s.okRead d).calw = s.calw := rfl
@[simp] theorem okRead_calv (d : Byte) : (s.okRead d).calv = s.calv := rfl
@[simp] theorem okRead_sb (d : Byte) : (s.okRead d).sb = s.sb := rfl
@[simp] theorem okRead_sbw (d : Byte) : (s.okRead d).sbw = s.sbw := rfl
@[simp] theorem okRead_oss (d : Byte) : (s.okRead d).oss = s.oss := rfl
@[simp] theorem okRead_b5 (d : Byte) : (s.okRead d).b5 = s.b5 := rfl
@[simp] theorem okRead_t (d : Byte) : (s.okRead d).t = s.t := rfl
@[simp] theorem okRead_p (d : Byte) : (s.okRead d).p = s.p := rfl
@[simp] theorem okRead_tv (d : Byte) : (s.okRead d).tv = s.tv := rfl
@[simp] theorem okRead_pv (d : Byte) : (s.okRead d).pv = s.pv := rfl
@[simp] theorem okRead_br (d : Byte) : (s.okRead d).br = s.br := rfl
@[simp] theorem okRead_err (d : Byte) : (s.okRead d).err = s.err := rfl
@[simp] theorem okRead_ecause (d : Byte) : (s.okRead d).ecause = s.ecause := rfl
@[simp] theorem okRead_resetApplied (d : Byte) : (s.okRead d).resetApplied = s.resetApplied := rfl
@[simp] theorem okRead_inputs (d : Byte) : (s.okRead d).inputs = s.inputs := rfl
@[simp] theorem okRead_answer (d : Byte) : (s.okRead d).answer = some (.read d okay) := rfl

@[simp] theorem raise_cal (a : Access) (e : ErrCode) : (s.raise a e).cal = s.cal := rfl
@[simp] theorem raise_calw (a : Access) (e : ErrCode) : (s.raise a e).calw = s.calw := rfl
@[simp] theorem raise_calv (a : Access) (e : ErrCode) : (s.raise a e).calv = s.calv := rfl
@[simp] theorem raise_sb (a : Access) (e : ErrCode) : (s.raise a e).sb = s.sb := rfl
@[simp] theorem raise_sbw (a : Access) (e : ErrCode) : (s.raise a e).sbw = s.sbw := rfl
@[simp] theorem raise_oss (a : Access) (e : ErrCode) : (s.raise a e).oss = s.oss := rfl
@[simp] theorem raise_b5 (a : Access) (e : ErrCode) : (s.raise a e).b5 = s.b5 := rfl
@[simp] theorem raise_t (a : Access) (e : ErrCode) : (s.raise a e).t = s.t := rfl
@[simp] theorem raise_p (a : Access) (e : ErrCode) : (s.raise a e).p = s.p := rfl
@[simp] theorem raise_tv (a : Access) (e : ErrCode) : (s.raise a e).tv = s.tv := rfl
@[simp] theorem raise_pv (a : Access) (e : ErrCode) : (s.raise a e).pv = s.pv := rfl
@[simp] theorem raise_br (a : Access) (e : ErrCode) : (s.raise a e).br = s.br := rfl
@[simp] theorem raise_err (a : Access) (e : ErrCode) : (s.raise a e).err = s.err ||| e.errBit := rfl
@[simp] theorem raise_ecause (a : Access) (e : ErrCode) : (s.raise a e).ecause = e.code := rfl
@[simp] theorem raise_resetApplied (a : Access) (e : ErrCode) : (s.raise a e).resetApplied = s.resetApplied := rfl
@[simp] theorem raise_inputs (a : Access) (e : ErrCode) : (s.raise a e).inputs = s.inputs := rfl
@[simp] theorem raise_answer (a : Access) (e : ErrCode) : (s.raise a e).answer = some (refusalAnswer a e) := rfl

@[simp] theorem clearErrors_cal : (s.clearErrors).cal = s.cal := rfl
@[simp] theorem clearErrors_calw : (s.clearErrors).calw = s.calw := rfl
@[simp] theorem clearErrors_calv : (s.clearErrors).calv = s.calv := rfl
@[simp] theorem clearErrors_sb : (s.clearErrors).sb = s.sb := rfl
@[simp] theorem clearErrors_sbw : (s.clearErrors).sbw = s.sbw := rfl
@[simp] theorem clearErrors_oss : (s.clearErrors).oss = s.oss := rfl
@[simp] theorem clearErrors_b5 : (s.clearErrors).b5 = s.b5 := rfl
@[simp] theorem clearErrors_t : (s.clearErrors).t = s.t := rfl
@[simp] theorem clearErrors_p : (s.clearErrors).p = s.p := rfl
@[simp] theorem clearErrors_tv : (s.clearErrors).tv = s.tv := rfl
@[simp] theorem clearErrors_pv : (s.clearErrors).pv = s.pv := rfl
@[simp] theorem clearErrors_br : (s.clearErrors).br = s.br := rfl
@[simp] theorem clearErrors_err : (s.clearErrors).err = 0x00 := rfl
@[simp] theorem clearErrors_ecause : (s.clearErrors).ecause = 0 := rfl
@[simp] theorem clearErrors_resetApplied : (s.clearErrors).resetApplied = s.resetApplied := rfl
@[simp] theorem clearErrors_inputs : (s.clearErrors).inputs = s.inputs := rfl
@[simp] theorem clearErrors_answer : (s.clearErrors).answer = s.answer := rfl

@[simp] theorem lockCal_cal : (s.lockCal).cal = s.cal := rfl
@[simp] theorem lockCal_calw : (s.lockCal).calw = s.calw := rfl
@[simp] theorem lockCal_calv : (s.lockCal).calv = true := rfl
@[simp] theorem lockCal_sb : (s.lockCal).sb = s.sb := rfl
@[simp] theorem lockCal_sbw : (s.lockCal).sbw = s.sbw := rfl
@[simp] theorem lockCal_oss : (s.lockCal).oss = s.oss := rfl
@[simp] theorem lockCal_b5 : (s.lockCal).b5 = s.b5 := rfl
@[simp] theorem lockCal_t : (s.lockCal).t = s.t := rfl
@[simp] theorem lockCal_p : (s.lockCal).p = s.p := rfl
@[simp] theorem lockCal_tv : (s.lockCal).tv = s.tv := rfl
@[simp] theorem lockCal_pv : (s.lockCal).pv = s.pv := rfl
@[simp] theorem lockCal_br : (s.lockCal).br = s.br := rfl
@[simp] theorem lockCal_err : (s.lockCal).err = s.err := rfl
@[simp] theorem lockCal_ecause : (s.lockCal).ecause = s.ecause := rfl
@[simp] theorem lockCal_resetApplied : (s.lockCal).resetApplied = s.resetApplied := rfl
@[simp] theorem lockCal_inputs : (s.lockCal).inputs = s.inputs := rfl
@[simp] theorem lockCal_answer : (s.lockCal).answer = s.answer := rfl

@[simp] theorem putCal_cal (i : Fin 22) (d : Byte) : (s.putCal i d).cal = s.cal.set i d := rfl
@[simp] theorem putCal_calw (i : Fin 22) (d : Byte) : (s.putCal i d).calw = s.calw ||| (1#22 <<< i.val) := rfl
@[simp] theorem putCal_calv (i : Fin 22) (d : Byte) : (s.putCal i d).calv = s.calv := rfl
@[simp] theorem putCal_sb (i : Fin 22) (d : Byte) : (s.putCal i d).sb = s.sb := rfl
@[simp] theorem putCal_sbw (i : Fin 22) (d : Byte) : (s.putCal i d).sbw = s.sbw := rfl
@[simp] theorem putCal_oss (i : Fin 22) (d : Byte) : (s.putCal i d).oss = s.oss := rfl
@[simp] theorem putCal_b5 (i : Fin 22) (d : Byte) : (s.putCal i d).b5 = s.b5 := rfl
@[simp] theorem putCal_t (i : Fin 22) (d : Byte) : (s.putCal i d).t = s.t := rfl
@[simp] theorem putCal_p (i : Fin 22) (d : Byte) : (s.putCal i d).p = s.p := rfl
@[simp] theorem putCal_tv (i : Fin 22) (d : Byte) : (s.putCal i d).tv = s.tv := rfl
@[simp] theorem putCal_pv (i : Fin 22) (d : Byte) : (s.putCal i d).pv = s.pv := rfl
@[simp] theorem putCal_br (i : Fin 22) (d : Byte) : (s.putCal i d).br = s.br := rfl
@[simp] theorem putCal_err (i : Fin 22) (d : Byte) : (s.putCal i d).err = s.err := rfl
@[simp] theorem putCal_ecause (i : Fin 22) (d : Byte) : (s.putCal i d).ecause = s.ecause := rfl
@[simp] theorem putCal_resetApplied (i : Fin 22) (d : Byte) : (s.putCal i d).resetApplied = s.resetApplied := rfl
@[simp] theorem putCal_inputs (i : Fin 22) (d : Byte) : (s.putCal i d).inputs = s.inputs := rfl
@[simp] theorem putCal_answer (i : Fin 22) (d : Byte) : (s.putCal i d).answer = s.answer := rfl

@[simp] theorem putSb_cal (j : Fin 3) (d : Byte) : (s.putSb j d).cal = s.cal := rfl
@[simp] theorem putSb_calw (j : Fin 3) (d : Byte) : (s.putSb j d).calw = s.calw := rfl
@[simp] theorem putSb_calv (j : Fin 3) (d : Byte) : (s.putSb j d).calv = s.calv := rfl
@[simp] theorem putSb_sb (j : Fin 3) (d : Byte) : (s.putSb j d).sb = s.sb.set j d := rfl
@[simp] theorem putSb_sbw (j : Fin 3) (d : Byte) : (s.putSb j d).sbw = s.sbw ||| (1#3 <<< j.val) := rfl
@[simp] theorem putSb_oss (j : Fin 3) (d : Byte) : (s.putSb j d).oss = s.oss := rfl
@[simp] theorem putSb_b5 (j : Fin 3) (d : Byte) : (s.putSb j d).b5 = s.b5 := rfl
@[simp] theorem putSb_t (j : Fin 3) (d : Byte) : (s.putSb j d).t = s.t := rfl
@[simp] theorem putSb_p (j : Fin 3) (d : Byte) : (s.putSb j d).p = s.p := rfl
@[simp] theorem putSb_tv (j : Fin 3) (d : Byte) : (s.putSb j d).tv = s.tv := rfl
@[simp] theorem putSb_pv (j : Fin 3) (d : Byte) : (s.putSb j d).pv = s.pv := rfl
@[simp] theorem putSb_br (j : Fin 3) (d : Byte) : (s.putSb j d).br = s.br := rfl
@[simp] theorem putSb_err (j : Fin 3) (d : Byte) : (s.putSb j d).err = s.err := rfl
@[simp] theorem putSb_ecause (j : Fin 3) (d : Byte) : (s.putSb j d).ecause = s.ecause := rfl
@[simp] theorem putSb_resetApplied (j : Fin 3) (d : Byte) : (s.putSb j d).resetApplied = s.resetApplied := rfl
@[simp] theorem putSb_inputs (j : Fin 3) (d : Byte) : (s.putSb j d).inputs = s.inputs := rfl
@[simp] theorem putSb_answer (j : Fin 3) (d : Byte) : (s.putSb j d).answer = s.answer := rfl

@[simp] theorem putOss_cal (m : BitVec 2) : (s.putOss m).cal = s.cal := rfl
@[simp] theorem putOss_calw (m : BitVec 2) : (s.putOss m).calw = s.calw := rfl
@[simp] theorem putOss_calv (m : BitVec 2) : (s.putOss m).calv = s.calv := rfl
@[simp] theorem putOss_sb (m : BitVec 2) : (s.putOss m).sb = s.sb := rfl
@[simp] theorem putOss_sbw (m : BitVec 2) : (s.putOss m).sbw = s.sbw := rfl
@[simp] theorem putOss_oss (m : BitVec 2) : (s.putOss m).oss = m := rfl
@[simp] theorem putOss_b5 (m : BitVec 2) : (s.putOss m).b5 = s.b5 := rfl
@[simp] theorem putOss_t (m : BitVec 2) : (s.putOss m).t = s.t := rfl
@[simp] theorem putOss_p (m : BitVec 2) : (s.putOss m).p = s.p := rfl
@[simp] theorem putOss_tv (m : BitVec 2) : (s.putOss m).tv = s.tv := rfl
@[simp] theorem putOss_pv (m : BitVec 2) : (s.putOss m).pv = s.pv := rfl
@[simp] theorem putOss_br (m : BitVec 2) : (s.putOss m).br = s.br := rfl
@[simp] theorem putOss_err (m : BitVec 2) : (s.putOss m).err = s.err := rfl
@[simp] theorem putOss_ecause (m : BitVec 2) : (s.putOss m).ecause = s.ecause := rfl
@[simp] theorem putOss_resetApplied (m : BitVec 2) : (s.putOss m).resetApplied = s.resetApplied := rfl
@[simp] theorem putOss_inputs (m : BitVec 2) : (s.putOss m).inputs = s.inputs := rfl
@[simp] theorem putOss_answer (m : BitVec 2) : (s.putOss m).answer = s.answer := rfl

@[simp] theorem consumeSample_cal : (s.consumeSample).cal = s.cal := rfl
@[simp] theorem consumeSample_calw : (s.consumeSample).calw = s.calw := rfl
@[simp] theorem consumeSample_calv : (s.consumeSample).calv = s.calv := rfl
@[simp] theorem consumeSample_sb : (s.consumeSample).sb = s.sb := rfl
@[simp] theorem consumeSample_sbw : (s.consumeSample).sbw = 0 := rfl
@[simp] theorem consumeSample_oss : (s.consumeSample).oss = s.oss := rfl
@[simp] theorem consumeSample_b5 : (s.consumeSample).b5 = s.b5 := rfl
@[simp] theorem consumeSample_t : (s.consumeSample).t = s.t := rfl
@[simp] theorem consumeSample_p : (s.consumeSample).p = s.p := rfl
@[simp] theorem consumeSample_tv : (s.consumeSample).tv = s.tv := rfl
@[simp] theorem consumeSample_pv : (s.consumeSample).pv = s.pv := rfl
@[simp] theorem consumeSample_br : (s.consumeSample).br = s.br := rfl
@[simp] theorem consumeSample_err : (s.consumeSample).err = s.err := rfl
@[simp] theorem consumeSample_ecause : (s.consumeSample).ecause = s.ecause := rfl
@[simp] theorem consumeSample_resetApplied : (s.consumeSample).resetApplied = s.resetApplied := rfl
@[simp] theorem consumeSample_inputs : (s.consumeSample).inputs = s.inputs := rfl
@[simp] theorem consumeSample_answer : (s.consumeSample).answer = s.answer := rfl

@[simp] theorem dropPressure_cal : (s.dropPressure).cal = s.cal := rfl
@[simp] theorem dropPressure_calw : (s.dropPressure).calw = s.calw := rfl
@[simp] theorem dropPressure_calv : (s.dropPressure).calv = s.calv := rfl
@[simp] theorem dropPressure_sb : (s.dropPressure).sb = s.sb := rfl
@[simp] theorem dropPressure_sbw : (s.dropPressure).sbw = s.sbw := rfl
@[simp] theorem dropPressure_oss : (s.dropPressure).oss = s.oss := rfl
@[simp] theorem dropPressure_b5 : (s.dropPressure).b5 = s.b5 := rfl
@[simp] theorem dropPressure_t : (s.dropPressure).t = s.t := rfl
@[simp] theorem dropPressure_p : (s.dropPressure).p = s.p := rfl
@[simp] theorem dropPressure_tv : (s.dropPressure).tv = s.tv := rfl
@[simp] theorem dropPressure_pv : (s.dropPressure).pv = false := rfl
@[simp] theorem dropPressure_br : (s.dropPressure).br = s.br := rfl
@[simp] theorem dropPressure_err : (s.dropPressure).err = s.err := rfl
@[simp] theorem dropPressure_ecause : (s.dropPressure).ecause = s.ecause := rfl
@[simp] theorem dropPressure_resetApplied : (s.dropPressure).resetApplied = s.resetApplied := rfl
@[simp] theorem dropPressure_inputs : (s.dropPressure).inputs = s.inputs := rfl
@[simp] theorem dropPressure_answer : (s.dropPressure).answer = s.answer := rfl

@[simp] theorem dropTemperature_cal : (s.dropTemperature).cal = s.cal := rfl
@[simp] theorem dropTemperature_calw : (s.dropTemperature).calw = s.calw := rfl
@[simp] theorem dropTemperature_calv : (s.dropTemperature).calv = s.calv := rfl
@[simp] theorem dropTemperature_sb : (s.dropTemperature).sb = s.sb := rfl
@[simp] theorem dropTemperature_sbw : (s.dropTemperature).sbw = s.sbw := rfl
@[simp] theorem dropTemperature_oss : (s.dropTemperature).oss = s.oss := rfl
@[simp] theorem dropTemperature_b5 : (s.dropTemperature).b5 = s.b5 := rfl
@[simp] theorem dropTemperature_t : (s.dropTemperature).t = s.t := rfl
@[simp] theorem dropTemperature_p : (s.dropTemperature).p = s.p := rfl
@[simp] theorem dropTemperature_tv : (s.dropTemperature).tv = false := rfl
@[simp] theorem dropTemperature_pv : (s.dropTemperature).pv = s.pv := rfl
@[simp] theorem dropTemperature_br : (s.dropTemperature).br = s.br := rfl
@[simp] theorem dropTemperature_err : (s.dropTemperature).err = s.err := rfl
@[simp] theorem dropTemperature_ecause : (s.dropTemperature).ecause = s.ecause := rfl
@[simp] theorem dropTemperature_resetApplied : (s.dropTemperature).resetApplied = s.resetApplied := rfl
@[simp] theorem dropTemperature_inputs : (s.dropTemperature).inputs = s.inputs := rfl
@[simp] theorem dropTemperature_answer : (s.dropTemperature).answer = s.answer := rfl

@[simp] theorem commitTemperature_cal (b t : Int) : (s.commitTemperature b t).cal = s.cal := rfl
@[simp] theorem commitTemperature_calw (b t : Int) : (s.commitTemperature b t).calw = s.calw := rfl
@[simp] theorem commitTemperature_calv (b t : Int) : (s.commitTemperature b t).calv = s.calv := rfl
@[simp] theorem commitTemperature_sb (b t : Int) : (s.commitTemperature b t).sb = s.sb := rfl
@[simp] theorem commitTemperature_sbw (b t : Int) : (s.commitTemperature b t).sbw = s.sbw := rfl
@[simp] theorem commitTemperature_oss (b t : Int) : (s.commitTemperature b t).oss = s.oss := rfl
@[simp] theorem commitTemperature_b5 (b t : Int) : (s.commitTemperature b t).b5 = tc32 b := rfl
@[simp] theorem commitTemperature_t (b t : Int) : (s.commitTemperature b t).t = tc32 t := rfl
@[simp] theorem commitTemperature_p (b t : Int) : (s.commitTemperature b t).p = s.p := rfl
@[simp] theorem commitTemperature_tv (b t : Int) : (s.commitTemperature b t).tv = true := rfl
@[simp] theorem commitTemperature_pv (b t : Int) : (s.commitTemperature b t).pv = s.pv := rfl
@[simp] theorem commitTemperature_br (b t : Int) : (s.commitTemperature b t).br = s.br := rfl
@[simp] theorem commitTemperature_err (b t : Int) : (s.commitTemperature b t).err = s.err := rfl
@[simp] theorem commitTemperature_ecause (b t : Int) : (s.commitTemperature b t).ecause = s.ecause := rfl
@[simp] theorem commitTemperature_resetApplied (b t : Int) : (s.commitTemperature b t).resetApplied = s.resetApplied := rfl
@[simp] theorem commitTemperature_inputs (b t : Int) : (s.commitTemperature b t).inputs = s.inputs := rfl
@[simp] theorem commitTemperature_answer (b t : Int) : (s.commitTemperature b t).answer = s.answer := rfl

@[simp] theorem commitPressure_cal (pp : Int) (br : Bool) : (s.commitPressure pp br).cal = s.cal := rfl
@[simp] theorem commitPressure_calw (pp : Int) (br : Bool) : (s.commitPressure pp br).calw = s.calw := rfl
@[simp] theorem commitPressure_calv (pp : Int) (br : Bool) : (s.commitPressure pp br).calv = s.calv := rfl
@[simp] theorem commitPressure_sb (pp : Int) (br : Bool) : (s.commitPressure pp br).sb = s.sb := rfl
@[simp] theorem commitPressure_sbw (pp : Int) (br : Bool) : (s.commitPressure pp br).sbw = s.sbw := rfl
@[simp] theorem commitPressure_oss (pp : Int) (br : Bool) : (s.commitPressure pp br).oss = s.oss := rfl
@[simp] theorem commitPressure_b5 (pp : Int) (br : Bool) : (s.commitPressure pp br).b5 = s.b5 := rfl
@[simp] theorem commitPressure_t (pp : Int) (br : Bool) : (s.commitPressure pp br).t = s.t := rfl
@[simp] theorem commitPressure_p (pp : Int) (br : Bool) : (s.commitPressure pp br).p = tc32 pp := rfl
@[simp] theorem commitPressure_tv (pp : Int) (br : Bool) : (s.commitPressure pp br).tv = s.tv := rfl
@[simp] theorem commitPressure_pv (pp : Int) (br : Bool) : (s.commitPressure pp br).pv = true := rfl
@[simp] theorem commitPressure_br (pp : Int) (br : Bool) : (s.commitPressure pp br).br = br := rfl
@[simp] theorem commitPressure_err (pp : Int) (br : Bool) : (s.commitPressure pp br).err = s.err := rfl
@[simp] theorem commitPressure_ecause (pp : Int) (br : Bool) : (s.commitPressure pp br).ecause = s.ecause := rfl
@[simp] theorem commitPressure_resetApplied (pp : Int) (br : Bool) : (s.commitPressure pp br).resetApplied = s.resetApplied := rfl
@[simp] theorem commitPressure_inputs (pp : Int) (br : Bool) : (s.commitPressure pp br).inputs = s.inputs := rfl
@[simp] theorem commitPressure_answer (pp : Int) (br : Bool) : (s.commitPressure pp br).answer = s.answer := rfl

@[simp] theorem releaseReset_cal : (s.releaseReset).cal = s.cal := rfl
@[simp] theorem releaseReset_calw : (s.releaseReset).calw = s.calw := rfl
@[simp] theorem releaseReset_calv : (s.releaseReset).calv = s.calv := rfl
@[simp] theorem releaseReset_sb : (s.releaseReset).sb = s.sb := rfl
@[simp] theorem releaseReset_sbw : (s.releaseReset).sbw = s.sbw := rfl
@[simp] theorem releaseReset_oss : (s.releaseReset).oss = s.oss := rfl
@[simp] theorem releaseReset_b5 : (s.releaseReset).b5 = s.b5 := rfl
@[simp] theorem releaseReset_t : (s.releaseReset).t = s.t := rfl
@[simp] theorem releaseReset_p : (s.releaseReset).p = s.p := rfl
@[simp] theorem releaseReset_tv : (s.releaseReset).tv = s.tv := rfl
@[simp] theorem releaseReset_pv : (s.releaseReset).pv = s.pv := rfl
@[simp] theorem releaseReset_br : (s.releaseReset).br = s.br := rfl
@[simp] theorem releaseReset_err : (s.releaseReset).err = s.err := rfl
@[simp] theorem releaseReset_ecause : (s.releaseReset).ecause = s.ecause := rfl
@[simp] theorem releaseReset_resetApplied : (s.releaseReset).resetApplied = false := rfl
@[simp] theorem releaseReset_inputs : (s.releaseReset).inputs = s.inputs := rfl
@[simp] theorem releaseReset_answer : (s.releaseReset).answer = s.answer := rfl

@[simp] theorem withInputs_cal (es : List HostEvent) : (s.withInputs es).cal = s.cal := rfl
@[simp] theorem withInputs_calw (es : List HostEvent) : (s.withInputs es).calw = s.calw := rfl
@[simp] theorem withInputs_calv (es : List HostEvent) : (s.withInputs es).calv = s.calv := rfl
@[simp] theorem withInputs_sb (es : List HostEvent) : (s.withInputs es).sb = s.sb := rfl
@[simp] theorem withInputs_sbw (es : List HostEvent) : (s.withInputs es).sbw = s.sbw := rfl
@[simp] theorem withInputs_oss (es : List HostEvent) : (s.withInputs es).oss = s.oss := rfl
@[simp] theorem withInputs_b5 (es : List HostEvent) : (s.withInputs es).b5 = s.b5 := rfl
@[simp] theorem withInputs_t (es : List HostEvent) : (s.withInputs es).t = s.t := rfl
@[simp] theorem withInputs_p (es : List HostEvent) : (s.withInputs es).p = s.p := rfl
@[simp] theorem withInputs_tv (es : List HostEvent) : (s.withInputs es).tv = s.tv := rfl
@[simp] theorem withInputs_pv (es : List HostEvent) : (s.withInputs es).pv = s.pv := rfl
@[simp] theorem withInputs_br (es : List HostEvent) : (s.withInputs es).br = s.br := rfl
@[simp] theorem withInputs_err (es : List HostEvent) : (s.withInputs es).err = s.err := rfl
@[simp] theorem withInputs_ecause (es : List HostEvent) : (s.withInputs es).ecause = s.ecause := rfl
@[simp] theorem withInputs_resetApplied (es : List HostEvent) : (s.withInputs es).resetApplied = s.resetApplied := rfl
@[simp] theorem withInputs_inputs (es : List HostEvent) : (s.withInputs es).inputs = es := rfl
@[simp] theorem withInputs_answer (es : List HostEvent) : (s.withInputs es).answer = s.answer := rfl

@[simp] theorem applyReset_cal : s.applyReset.cal = Vector.replicate 22 0x00 := rfl
@[simp] theorem applyReset_calw : s.applyReset.calw = 0 := rfl
@[simp] theorem applyReset_calv : s.applyReset.calv = false := rfl
@[simp] theorem applyReset_sb : s.applyReset.sb = Vector.replicate 3 0x00 := rfl
@[simp] theorem applyReset_sbw : s.applyReset.sbw = 0 := rfl
@[simp] theorem applyReset_oss : s.applyReset.oss = 0 := rfl
@[simp] theorem applyReset_b5 : s.applyReset.b5 = 0 := rfl
@[simp] theorem applyReset_t : s.applyReset.t = 0 := rfl
@[simp] theorem applyReset_p : s.applyReset.p = 0 := rfl
@[simp] theorem applyReset_tv : s.applyReset.tv = false := rfl
@[simp] theorem applyReset_pv : s.applyReset.pv = false := rfl
@[simp] theorem applyReset_br : s.applyReset.br = false := rfl
@[simp] theorem applyReset_err : s.applyReset.err = 0x00 := rfl
@[simp] theorem applyReset_ecause : s.applyReset.ecause = 0 := rfl
@[simp] theorem applyReset_resetApplied : s.applyReset.resetApplied = true := rfl
@[simp] theorem applyReset_inputs : s.applyReset.inputs = s.inputs := rfl
@[simp] theorem applyReset_answer : s.applyReset.answer = none := rfl

@[simp] theorem reset_cal : State.reset.cal = Vector.replicate 22 0x00 := rfl
@[simp] theorem reset_calw : State.reset.calw = 0 := rfl
@[simp] theorem reset_calv : State.reset.calv = false := rfl
@[simp] theorem reset_sb : State.reset.sb = Vector.replicate 3 0x00 := rfl
@[simp] theorem reset_sbw : State.reset.sbw = 0 := rfl
@[simp] theorem reset_oss : State.reset.oss = 0 := rfl
@[simp] theorem reset_b5 : State.reset.b5 = 0 := rfl
@[simp] theorem reset_t : State.reset.t = 0 := rfl
@[simp] theorem reset_p : State.reset.p = 0 := rfl
@[simp] theorem reset_tv : State.reset.tv = false := rfl
@[simp] theorem reset_pv : State.reset.pv = false := rfl
@[simp] theorem reset_br : State.reset.br = false := rfl
@[simp] theorem reset_err : State.reset.err = 0x00 := rfl
@[simp] theorem reset_ecause : State.reset.ecause = 0 := rfl
@[simp] theorem reset_resetApplied : State.reset.resetApplied = false := rfl
@[simp] theorem reset_inputs : State.reset.inputs = [] := rfl
@[simp] theorem reset_answer : State.reset.answer = none := rfl

end State

end Sys2Proof.Machine
end

