-- ==== Sys2Proof/Laws/Commands.lean ====
section
/-! SUPPORT. Commands.lean: for each command, everything it can do: one inversion lemma each, which the proofs cite in
the place of unfolding the meaning; and that a command always gives a next state. -/

namespace Sys2Proof.Machine

/-- LOCK is refused, refused, or locks (R90). -/
theorem execLock_cases {s s' : State} (h : execLock s = .next s') :
    (s.calv = true ∧ s' = s.raise .write .locked) ∨
    (s.calv = false ∧ allCalWritten s = true ∧ s' = s.lockCal.okWrite) ∨
    (s.calv = false ∧ allCalWritten s = false ∧ s' = s.raise .write .seq) := by
  unfold execLock at h
  split at h
  · next hc => exact .inl ⟨hc, by simpa using h.symm⟩
  · next hc =>
    split at h
    · next hw => exact .inr (.inl ⟨by simpa using hc, hw, by simpa using h.symm⟩)
    · next hw => exact .inr (.inr ⟨by simpa using hc, by simpa using hw, by simpa using h.symm⟩)

/-- CLRERR clears (R91). -/
theorem execClrerr_eq (s : State) : execClrerr s = .next s.clearErrors.okWrite := rfl

/-- CTEMP is refused with nothing done, refused at a zero divisor, or commits (R100). -/
theorem execCtemp_cases {s s' : State} (h : execCtemp s = .next s') :
    (ctempReady s = false ∧ s' = s.raise .write .seq) ∨
    (ctempReady s = true ∧ tempD s = 0 ∧
      s' = s.consumeSample.dropPressure.dropTemperature.raise .write .div0) ∨
    (ctempReady s = true ∧ tempD s ≠ 0 ∧
      s' = (s.consumeSample.dropPressure.commitTemperature (tempB5 s) (tempT s)).okWrite) := by
  unfold execCtemp at h
  split at h
  · next hr =>
    split at h
    · next hd => exact .inr (.inl ⟨hr, hd, by simpa using h.symm⟩)
    · next hd => exact .inr (.inr ⟨hr, hd, by simpa using h.symm⟩)
  · next hr => exact .inl ⟨by simpa using hr, by simpa using h.symm⟩

/-- CPRES is refused with nothing done, refused at a zero divisor or out of range, or commits (R120). -/
theorem execCpres_cases {s s' : State} (h : execCpres s = .next s') :
    (cpresReady s = false ∧ s' = s.raise .write .seq) ∨
    (cpresReady s = true ∧ presB4 s = 0 ∧ s' = s.consumeSample.dropPressure.raise .write .div0) ∨
    (cpresReady s = true ∧ presB4 s ≠ 0 ∧ fits32 (presPP s) = true ∧
      s' = (s.consumeSample.commitPressure (presPP s) (branchOf (presB7 s))).okWrite) ∨
    (cpresReady s = true ∧ presB4 s ≠ 0 ∧ fits32 (presPP s) = false ∧
      s' = s.consumeSample.dropPressure.raise .write .range) := by
  unfold execCpres at h
  split at h
  · next hr =>
    split at h
    · next hd => exact .inr (.inl ⟨hr, hd, by simpa using h.symm⟩)
    · next hd =>
      split at h
      · next hf => exact .inr (.inr (.inl ⟨hr, hd, hf, by simpa using h.symm⟩))
      · next hf => exact .inr (.inr (.inr ⟨hr, hd, by simpa using hf, by simpa using h.symm⟩))
  · next hr => exact .inl ⟨by simpa using hr, by simpa using h.symm⟩

/-- A command always gives a next state: a refused command is a next state too (R165). -/
theorem exec_next (i : Instr) (s : State) : ∃ s', exec i s = .next s' := by
  cases i
  · simp only [exec, execLock]; split <;> [skip; split] <;> exact ⟨_, rfl⟩
  · exact ⟨_, rfl⟩
  · simp only [exec, execCtemp]; split <;> [split; skip] <;> exact ⟨_, rfl⟩
  · simp only [exec, execCpres]; split <;> [(split <;> [skip; split]); skip] <;> exact ⟨_, rfl⟩

/-- No command writes the coefficient bytes, their flags, the sample bytes, the mode, or the model's own inputs. -/
theorem exec_keeps {i : Instr} {s s' : State} (h : exec i s = .next s') :
    s'.cal = s.cal ∧ s'.calw = s.calw ∧ s'.sb = s.sb ∧ s'.oss = s.oss ∧
      s'.resetApplied = s.resetApplied ∧ s'.inputs = s.inputs := by
  cases i
  · obtain ⟨-, rfl⟩ | ⟨-, -, rfl⟩ | ⟨-, -, rfl⟩ := execLock_cases h <;> simp
  · obtain rfl : _ = s' := by simpa [exec, execClrerr] using h
    simp
  · obtain ⟨-, rfl⟩ | ⟨-, -, rfl⟩ | ⟨-, -, rfl⟩ := execCtemp_cases h <;> simp
  · obtain ⟨-, rfl⟩ | ⟨-, -, rfl⟩ | ⟨-, -, -, rfl⟩ | ⟨-, -, -, rfl⟩ := execCpres_cases h <;> simp

end Sys2Proof.Machine
end

