-- ==== Sys2Proof/Laws/PerInstr.lean ====
section
/-! SUPPORT. PerInstr.lean: the family `TableRow`: each command has a row of the command table, and its encoded byte is
selected by that row's mask and match (`30_encoding.md` R72). -/

namespace Sys2Proof.Laws.TableRow

/-- The command stands in the table, and its row selects its byte. -/
def Statement (i : Instr) : Prop := ∃ r ∈ commandTable, r.instr = i ∧ r.selects (encode i) = true

theorem lock : Statement .lock := ⟨⟨.lock, 0xFF, 0x01⟩, by simp [commandTable], rfl, by decide⟩

theorem clrerr : Statement .clrerr := ⟨⟨.clrerr, 0xFF, 0x02⟩, by simp [commandTable], rfl, by decide⟩

theorem ctemp : Statement .ctemp := ⟨⟨.ctemp, 0xFF, 0x20⟩, by simp [commandTable], rfl, by decide⟩

theorem cpres : Statement .cpres := ⟨⟨.cpres, 0xFF, 0x21⟩, by simp [commandTable], rfl, by decide⟩

end Sys2Proof.Laws.TableRow
end

