-- ==== Sys2Proof/Laws/Port.lean ====
section
/-! SUPPORT. Port.lean: the register map and its inverse, what a byte write does to the bytes read afterwards, and what a
transaction can do, once. -/

namespace Sys2Proof.Machine

/-- Every register byte is found at its address (R51). -/
theorem regAt_addr (r : Reg) : regAt r.addr = some r := by
  cases r with
  | cmd => rfl
  | oss => rfl
  | status => rfl
  | err => rfl
  | ecause => rfl
  | calw k => revert k; decide
  | b5 j => revert j; decide
  | t j => revert j; decide
  | p j => revert j; decide
  | cal i => revert i; decide
  | sb j => revert j; decide

/-- A mapped address is the address of the register found there (R51). -/
theorem addr_of_regAt : ∀ a : Addr, ∀ r, regAt a = some r → r.addr = a := by
  have h : ∀ a : Addr, (regAt a).all (fun r => r.addr == a) = true := by decide
  intro a r hr
  simpa [hr] using h a

@[simp] theorem guardedByte_true (d : Byte) : guardedByte true d = .ok d := rfl

@[simp] theorem guardedByte_false (d : Byte) : guardedByte false d = .error .notvalid := rfl

/-- Reading back the CAL byte just written. -/
@[simp] theorem putCal_same (s : State) (i : Fin 22) (d : Byte) : (s.putCal i d).cal[i] = d := by simp

/-- A CAL write leaves every other CAL byte alone. -/
theorem putCal_other (s : State) (i k : Fin 22) (d : Byte) (h : k ≠ i) : (s.putCal i d).cal[k] = s.cal[k] := by
  have : i.val ≠ k.val := fun e => h (Fin.ext e.symm)
  simp [this]

/-- Reading back the sample byte just written. -/
@[simp] theorem putSb_same (s : State) (j : Fin 3) (d : Byte) : (s.putSb j d).sb[j] = d := by simp

/-- A sample write leaves every other sample byte alone. -/
theorem putSb_other (s : State) (j k : Fin 3) (d : Byte) (h : k ≠ j) : (s.putSb j d).sb[k] = s.sb[k] := by
  have : j.val ≠ k.val := fun e => h (Fin.ext e.symm)
  simp [this]

/-- A CAL write sets exactly its own CALW flag (R56). -/
theorem putCal_flag (s : State) (i : Fin 22) (d : Byte) (k : Nat) (hk : k < 22) :
    (s.putCal i d).calw.getLsbD k = (s.calw.getLsbD k || decide (k = i.val)) := by
  have := i.isLt
  by_cases h : k = i.val
  · subst h; simp
  · simp [hk, h]; omega

/-- A sample write sets exactly its own SBW flag (R57). -/
theorem putSb_flag (s : State) (j : Fin 3) (d : Byte) (k : Nat) (hk : k < 3) :
    (s.putSb j d).sbw.getLsbD k = (s.sbw.getLsbD k || decide (k = j.val)) := by
  have := j.isLt
  by_cases h : k = j.val
  · subst h; simp
  · simp [hk, h]; omega

/-- A read delivers its byte or is refused; it does nothing else (R52). -/
theorem memRead_cases (a : Addr) (s : State) :
    (∃ d, peek a s = .ok d ∧ memRead a s = s.okRead d) ∨
    (∃ e, peek a s = .error e ∧ memRead a s = s.raise .read e) := by
  unfold memRead
  cases h : peek a s with
  | ok d => exact .inl ⟨d, rfl, rfl⟩
  | error e => exact .inr ⟨e, rfl, rfl⟩

/-- A write is refused, runs a command, or writes OSS, CAL or SB (R53). -/
theorem memWrite_cases {a : Addr} {d : Byte} {s s' : State} (h : memWrite a d s = .next s') :
    (∃ e, (e = .access ∨ e = .cmd ∨ e = .mode ∨ e = .locked) ∧ s' = s.raise .write e) ∨
    (∃ i, a = 0x00 ∧ decode d = .ok i ∧ exec i s = .next s') ∨
    (a = 0x01 ∧ d.toNat ≤ 3 ∧ s' = (s.putOss (d.setWidth 2)).okWrite) ∨
    (∃ i, regAt a = some (.cal i) ∧ s.calv = false ∧ s' = (s.putCal i d).okWrite) ∨
    (∃ j, regAt a = some (.sb j) ∧ s' = (s.putSb j d).okWrite) := by
  unfold memWrite at h
  split at h <;> rename_i hr
  · unfold writeCmd at h
    split at h <;> rename_i hd
    · exact .inr (.inl ⟨_, (addr_of_regAt _ _ hr).symm, hd, h⟩)
    · exact .inl ⟨.cmd, by simp, by simpa using h.symm⟩
  · unfold writeOss at h
    split at h
    · next hd => exact .inr (.inr (.inl ⟨(addr_of_regAt _ _ hr).symm, hd, by simpa using h.symm⟩))
    · exact .inl ⟨.mode, by simp, by simpa using h.symm⟩
  · unfold writeCal at h
    split at h
    · exact .inl ⟨.locked, by simp, by simpa using h.symm⟩
    · next hc => exact .inr (.inr (.inr (.inl ⟨_, hr, by simpa using hc, by simpa using h.symm⟩)))
  · exact .inr (.inr (.inr (.inr ⟨_, hr, by simpa [writeSb] using h.symm⟩)))
  all_goals exact .inl ⟨.access, by simp, by simpa using h.symm⟩

/-- A transaction always gives a next state (R165). -/
theorem transact_next (t : Transaction) (s : State) : ∃ s', transact t s = .next s' := by
  cases t with
  | read a => exact ⟨_, rfl⟩
  | write a d =>
    simp only [transact, memWrite]
    split
    · unfold writeCmd
      split
      · exact exec_next _ _
      · exact ⟨_, rfl⟩
    all_goals exact ⟨_, rfl⟩

end Sys2Proof.Machine
end

