-- ==== Sys2Proof/Laws/Step.lean ====
section
/-! SUPPORT. Step.lean: what one step can do, once, and how a run of several steps unfolds. -/

namespace Sys2Proof.Machine

theorem step_idle {s : State} (h : s.inputs = []) : step s = .next s := by simp [step, h]

theorem step_event {s : State} {e : HostEvent} {es : List HostEvent} (h : s.inputs = e :: es) :
    step s = hostEvent e (s.withInputs es) := by simp [step, h]

/-- With the reset input released, a step with a transaction at the head runs that transaction. -/
theorem step_transaction {s : State} {t : Transaction} {es : List HostEvent} (hr : s.resetApplied = false)
    (h : s.inputs = .transaction t :: es) : step s = transact t (s.withInputs es) := by
  simp [step_event h, hostEvent, hr]

/-- A step idles, is the reset input's, or runs one transaction. -/
theorem step_cases {s s' : State} (h : step s = .next s') :
    (s.inputs = [] ∧ s' = s) ∨
    (∃ es, s.inputs = .resetApply :: es ∧ s' = (s.withInputs es).applyReset) ∨
    (∃ es, s.inputs = .resetRelease :: es ∧ s' = (s.withInputs es).releaseReset) ∨
    (∃ t es, s.inputs = .transaction t :: es ∧ s.resetApplied = false ∧
      transact t (s.withInputs es) = .next s') := by
  cases hi : s.inputs with
  | nil => exact .inl ⟨rfl, by simpa [step_idle hi] using h.symm⟩
  | cons e es =>
    rw [step_event hi] at h
    cases e with
    | resetApply => exact .inr (.inl ⟨es, rfl, by simpa [hostEvent] using h.symm⟩)
    | resetRelease => exact .inr (.inr (.inl ⟨es, rfl, by simpa [hostEvent] using h.symm⟩))
    | transaction t =>
      refine .inr (.inr (.inr ⟨t, es, rfl, ?_⟩))
      cases hr : s.resetApplied <;> simp [hostEvent, hr] at h
      exact ⟨rfl, h⟩

@[simp] theorem run_zero (s : State) : Host.Core.run Sys2Proof.core 0 s = .next s := rfl

theorem coreRun_next (M : Host.Core) (n : Nat) (s s' : M.State) (h : M.step s = .next s') :
    M.run (n + 1) s = M.run n s' := by
  simp [Host.Core.run, h]

theorem coreRun_refused (M : Host.Core) (n : Nat) (s : M.State) (r : M.Refusal) (h : M.step s = .refused r) :
    M.run (n + 1) s = .refused r := by
  simp [Host.Core.run, h]

/-- The first step of a run of `n + 1`. -/
theorem run_succ {n : Nat} {s s' : State} (h : step s = .next s') :
    Host.Core.run Sys2Proof.core (n + 1) s = Host.Core.run Sys2Proof.core n s' :=
  coreRun_next Sys2Proof.core n s s' h

/-- A run of `n + 1` steps that ends in a state begins with a step that gives one. -/
theorem run_succ_cases {n : Nat} {s s' : State} (h : Host.Core.run Sys2Proof.core (n + 1) s = .next s') :
    ∃ s1, step s = .next s1 ∧ Host.Core.run Sys2Proof.core n s1 = .next s' := by
  cases hs : step s with
  | next s1 => exact ⟨s1, rfl, by rwa [run_succ hs] at h⟩
  | fault r => exact nomatch r
  | refused r =>
    exact nomatch (coreRun_refused Sys2Proof.core n s r hs).symm.trans h

/-- Package of the induction over a run: what holds at the start and every step keeps, holds at the end. -/
theorem run_invariant (I : State → Prop) (hstep : ∀ s s', I s → step s = .next s' → I s') :
    ∀ n s s', I s → Host.Core.run Sys2Proof.core n s = .next s' → I s' := by
  intro n
  induction n with
  | zero => intro s s' hi h; exact Host.Outcome.next.inj h ▸ hi
  | succ n ih =>
    intro s s' hi h
    obtain ⟨s1, h1, h2⟩ := run_succ_cases h
    exact ih s1 s' (hstep s s1 hi h1) h2

end Sys2Proof.Machine
end

