-- ==== Sys2Proof/Laws/Script.lean ====
section
/-! SUPPORT. Script.lean: what a block of calibration writes does over a run, once: the induction that every statement
about a load of CAL needs (`40_calibration_control.md` R92, `70_reset_and_hazards.md` R193). -/

namespace Sys2Proof.Machine

/-- One write to an unlocked CAL byte, as a step (R56). -/
theorem step_calWrite {s : State} {i : Fin 22} {d : Byte} {es : List HostEvent} (hr : s.resetApplied = false)
    (hc : s.calv = false) (h : s.inputs = .transaction (.write (hostByte (calBase + i.val)) d) :: es) :
    step s = .next ((s.withInputs es).putCal i d).okWrite := by
  have ha : regAt (hostByte (calBase + i.val)) = some (.cal i) := regAt_addr (.cal i)
  rw [step_transaction hr h]
  simp [transact, memWrite, ha, writeCal, hc]

/-- A block of writes to ascending CAL addresses on an unlocked engine: after its transactions each byte of the block
stands in CAL with its CALW flag 1, every other byte and flag is as before, and of the rest only the answer changed. -/
theorem run_calWrites : ∀ (block : List Byte) (base : Nat) (s : State) (es : List HostEvent), base + block.length ≤ 22 →
    s.calv = false → s.resetApplied = false → s.inputs = asInputs (writesFrom (calBase + base) block) ++ es →
    ∀ m, ∃ s' : State,
      Host.Core.run Sys2Proof.core (block.length + m) s = Host.Core.run Sys2Proof.core m s' ∧
      s' = { s with inputs := es, answer := s'.answer, cal := s'.cal, calw := s'.calw } ∧
      (∀ k (hk : k < 22), s'.cal[k] =
        if h : base ≤ k ∧ k - base < block.length then block[k - base]'h.2 else s.cal[k]) ∧
      (∀ k < 22, s'.calw.getLsbD k = (s.calw.getLsbD k || decide (base ≤ k ∧ k - base < block.length))) := by
  intro block
  induction block with
  | nil =>
    intro base s es _ _ _ hi m
    have he : s.inputs = es := by simpa [writesFrom, asInputs] using hi
    exact ⟨s, by simp, by rw [← he], by simp, by simp⟩
  | cons d ds ih =>
    intro base s es hlen hc hr hi m
    simp only [List.length_cons] at hlen
    let i : Fin 22 := ⟨base, by omega⟩
    let rest := asInputs (writesFrom (calBase + (base + 1)) ds) ++ es
    let s1 := ((s.withInputs rest).putCal i d).okWrite
    have hs : step s = .next s1 := step_calWrite (i := i) hr hc (by rw [hi]; rfl)
    obtain ⟨s', hrun, hframe, hcal, hcalw⟩ := ih (base + 1) s1 es (by omega) hc hr rfl m
    refine ⟨s', ?_, by rw [hframe]; rfl, ?_, ?_⟩
    · rw [← hrun, ← run_succ hs]
      congr 1
      simp only [List.length_cons]
      omega
    · intro k hk
      rw [hcal k hk]
      by_cases hb : base = k
      · subst hb
        rw [dif_neg (by omega), dif_pos ⟨le_refl _, by simp⟩]
        simp [s1, i]
      · by_cases hin : base + 1 ≤ k ∧ k - (base + 1) < ds.length
        · have hin' : base ≤ k ∧ k - base < (d :: ds).length := ⟨by omega, by simp; omega⟩
          have hk1 : k - base = k - (base + 1) + 1 := by omega
          rw [dif_pos hin, dif_pos hin']
          simp only [hk1, List.getElem_cons_succ]
        · have hout : ¬ (base ≤ k ∧ k - base < (d :: ds).length) := by simp; omega
          rw [dif_neg hin, dif_neg hout]
          simp [s1, i, hb]
    · intro k hk
      rw [hcalw k hk, show s1.calw = ((s.withInputs rest).putCal i d).calw from rfl, putCal_flag _ _ _ _ hk,
        show (s.withInputs rest).calw = s.calw from rfl, Bool.or_assoc, ← Bool.decide_or]
      congr 1
      by_cases hb : k = base
      · simp [i, hb]
      · rw [Bool.eq_iff_iff]
        simp [i, hb]
        omega

end Sys2Proof.Machine
end

