-- ==== Sys2Proof/Tests/Slice0.lean ====
section
/-! SUPPORT. Slice0.lean: the model's own tests. Expected values are the spec's (`95_test_vectors.md`, the encodings of
`30_encoding.md` R72), never the model's. The witnesses at the end show, for each statement with hypotheses, a state and
operands that meet them together. -/

namespace Sys2Proof.Tests

open Sys2Proof.Machine Sys2Proof.Rule

/-! ## Decoding: command bytes written out bit by bit from R72 -/

theorem test_decode_lock : decode 0b00000001#8 = .ok .lock := rfl

theorem test_decode_clrerr : decode 0b00000010#8 = .ok .clrerr := rfl

theorem test_decode_ctemp : decode 0b00100000#8 = .ok .ctemp := rfl

theorem test_decode_cpres : decode 0b00100001#8 = .ok .cpres := rfl

/-- X11's bytes, each rejected by name (R73). -/
theorem test_decode_illegal :
    decode 0x00 = .error (.unusedFunction 0 0) ∧ decode 0x03 = .error (.unusedFunction 0 3) ∧
    decode 0x10 = .error (.reservedGroup 1) ∧ decode 0x22 = .error (.unusedFunction 2 2) ∧
    decode 0xFF = .error (.reservedGroup 15) := ⟨rfl, rfl, rfl, rfl, rfl⟩

/-- The host's numbering of the table's words, and numbers that are no byte. -/
theorem test_decodeTableWord :
    decodeTableWord 8 0x01 = some .lock ∧ decodeTableWord 8 0x02 = some .clrerr ∧ decodeTableWord 8 0x20 = some .ctemp ∧
    decodeTableWord 8 0x21 = some .cpres ∧ decodeTableWord 8 0x00 = none ∧ decodeTableWord 16 0x101 = none := by decide

/-- The very next step runs the command word given (X7: LOCK straight after reset is refused with E_SEQ). -/
theorem test_withFetchWord : step (State.reset.withFetchWord 8 0x01) = exec .lock State.reset := rfl

/-! ## WellFormed: for each check an ill-formed line that it refuses -/

theorem smoke_command : ∀ i : Instr, i.wellFormed = true := by intro i; cases i <;> rfl

theorem smoke_wr_address : (ScriptLine.wr 256 0).wellFormed = false := by decide

theorem smoke_wr_data : (ScriptLine.wr 0 256).wellFormed = false := by decide

theorem smoke_rd : (ScriptLine.rd 256).wellFormed = false := by decide

theorem smoke_mode : (ScriptLine.mode 256).wellFormed = false ∧ (ScriptLine.mode 4).wellFormed = true := by decide

theorem smoke_calb_length : (ScriptLine.calb (List.replicate 21 0)).wellFormed = false := by decide

theorem smoke_calb_byte : (ScriptLine.calb (256 :: List.replicate 21 0)).wellFormed = false := by decide

theorem smoke_calw16 : (ScriptLine.calw16 (List.replicate 10 0)).wellFormed = false := by decide

theorem smoke_smp2 : (ScriptLine.smp2 256 0).wellFormed = false ∧ (ScriptLine.smp2 0 256).wellFormed = false := by decide

theorem smoke_smp3 : (ScriptLine.smp3 0 0 256).wellFormed = false := by decide

theorem smoke_temp : (ScriptLine.temp 65536).wellFormed = false := by decide

theorem smoke_pres : (ScriptLine.pres 16777216).wellFormed = false := by decide

theorem smoke_reads : (ScriptLine.rd16 255).wellFormed = false ∧ (ScriptLine.rd24 254).wellFormed = false ∧
    (ScriptLine.rd32 253).wellFormed = false := by decide

/-! ## States the tests start in -/

/-- The calibration bytes of coefficient set A (`95_test_vectors.md`). -/
def calA : Vector Byte 22 :=
  #v[0x01, 0x98, 0xFF, 0xB8, 0xC7, 0xD1, 0x7F, 0xE5, 0x7F, 0xF5, 0x5A, 0x71, 0x18, 0x2E, 0x00, 0x04, 0x80, 0x00, 0xDD, 0xF9,
    0x0B, 0x34]

/-- The state after "Boot A". -/
def bootA : State := { State.reset with cal := calA, calw := BitVec.allOnes 22, calv := true }

/-- A locked engine with all three sample bytes freshly written. -/
def sampled (s : State) (b0 b1 b2 : Byte) : State := { s with sb := #v[b0, b1, b2], sbw := 0b111 }

/-- A temperature stands. -/
def withB5 (s : State) (b5 t : Int) : State := { s with b5 := tc32 b5, t := tc32 t, tv := true }

/-- Set A of vector P16: AC3 = -32768, B1 = 0. -/
def calP16 : Vector Byte 22 := (((calA.set 4 0x80).set 5 0x00).set 12 0x00).set 13 0x00

/-- The state an outcome ends in. -/
def endOf : Host.Outcome State Fault Refusal → Option State
  | .next s => some s
  | .fault _ => none
  | .refused _ => none

/-! ## Commands, one step each -/

/-- X8: LOCK one byte short is refused with E_SEQ. -/
theorem test_lock_one_byte_short :
    (endOf (exec .lock { State.reset with calw := 0x1FFFFF })).map (fun s => (s.answer, s.calv, s.err, s.ecause))
      = some (some (.write 5), false, 0x10, 5) := by decide

/-- X9: LOCK of a locked block is refused with E_LOCKED. -/
theorem test_lock_twice :
    (endOf (exec .lock bootA)).map (fun s => (s.answer, s.err, statusByte s)) = some (some (.write 4), 0x08, 0x81) := by
  decide

/-- R91's example: after `MODE 7 -> E_MODE`, CLRERR empties ERR and ECAUSE. -/
theorem test_clrerr :
    (endOf (exec .clrerr { State.reset with err := 0x04, ecause := 3 })).map (fun s => (s.answer, s.err, s.ecause))
      = some (some (.write 0), 0x00, 0) := by decide

/-- Vector T4: negative shift, negative divisor; T and B5 as bytes. -/
theorem test_ctemp_T4 :
    (endOf (exec .ctemp (sampled bootA 0x00 0x00 0x55))).map (fun s => (s.t, s.b5, s.answer, statusByte s))
      = some (0xFFFFFA90, 0xFFFFA905, some (.write 0), 0x03) := by decide

/-- Vector T8: the zero divisor; TV, PV and SBW are cleared and B5 keeps its bits. -/
theorem test_ctemp_T8 :
    (endOf (exec .ctemp (sampled (withB5 bootA 2399 150) 0x4F 0x3D 0x00))).map
        (fun s => (s.answer, statusByte s, s.err, s.ecause, s.b5))
      = some (some (.write 7), 0x81, 0x40, 7, 0x0000095F) := by decide

/-- Vector S8: the second formula, mode 0; the first would give 128436. -/
theorem test_cpres_S8 :
    (endOf (exec .cpres (sampled (withB5 bootA 2399 150) 0xA9 0x6C 0x00))).map (fun s => (s.p, s.answer, statusByte s))
      = some (0x0001F5B3, some (.write 0), 0x0F) := by decide

/-- Vector P16 (a): negative B4, floor of a negative quotient. -/
theorem test_cpres_P16 :
    (endOf (exec .cpres (sampled (withB5 { bootA with cal := calP16 } 41972 2623) 0x5D 0x23 0x00))).map
        (fun s => (s.p, s.answer))
      = some (0xFFF94453, some (.write 0)) := by decide

/-! ## The port -/

/-- An engine whose next input is a transaction. -/
def offering (s : State) (t : Transaction) : State := { s with inputs := [.transaction t] }

/-- X3: `MODE 4` is refused and OSS keeps its value. -/
theorem test_mode_4 :
    (endOf (step (offering { State.reset with oss := 2 } (.write 0x01 0x04)))).map (fun s => (s.answer, s.oss))
      = some (some (.write 3), 2) := by decide

/-- X8: after 21 bytes the first CALW byte reads 0x1F. -/
theorem test_calw_read :
    (endOf (step (offering { State.reset with calw := 0x1FFFFF } (.read 0x05)))).map (fun s => s.answer)
      = some (some (.read 0x1F 0)) := by decide

/-- X4: a read of CMD. -/
theorem test_read_cmd :
    (endOf (step (offering State.reset (.read 0x00)))).map (fun s => (s.answer, s.err)) = some (some (.read 0x00 1), 0x01) := by
  decide

/-- R77's pseudo-instruction `TEMP 27898` is the writes 6C, FA and CTEMP. -/
theorem test_temp_line :
    (ScriptLine.temp 27898).expand = [.write 0xF6 0x6C, .write 0xF7 0xFA, .write 0x00 0x20] := by decide

/-- R78's `CALW16` with a negative word: -72 is 0xFFB8, AC2's bytes at 0xAC and 0xAD. -/
theorem test_calw16_negative :
    ((ScriptLine.calw16 [408, -72]).expand) = [.write 0xAA 0x01, .write 0xAB 0x98, .write 0xAC 0xFF, .write 0xAD 0xB8] := by
  decide

/-- PROG1 line 1: `W AA 01`. -/
theorem test_render : renderTransaction (.write 0xAA 0x01) = ['W', ' ', 'A', 'A', ' ', '0', '1'] := by decide

/-! ## Witnesses -/

theorem offering_pending (t : Transaction) : Pending (offering State.reset t) t [] := ⟨rfl, rfl⟩

theorem witness_DecodeOfEncodeIsTheCommand : Instr.cpres.wellFormed = true := rfl

theorem witness_StepRunsTheDecodedCommand :
    (offering State.reset (.write 0x00 0x20)).resetApplied = false ∧
    (offering State.reset (.write 0x00 0x20)).inputs = [commandWrite 0x20] ∧ decode 0x20 = .ok .ctemp := ⟨rfl, rfl, rfl⟩

theorem witness_IllegalCommandByteIsRefused :
    ∀ d ∈ [(0x00 : Byte), 0x03, 0x1F, 0x22, 0xFF], Pending (offering State.reset (.write 0x00 d)) (.write 0x00 d) [] ∧
      d ≠ 0x01 ∧ d ≠ 0x02 ∧ d ≠ 0x20 ∧ d ≠ 0x21 := by decide

theorem witness_IdleEngineKeepsItsState : State.reset.inputs = [] := rfl

theorem witness_LegalInputsRunSafely :
    inputsLegal false [.resetApply, .resetRelease, .transaction (.read 0x02), .resetApply] = true := by decide

/-- Each range of unmapped or unwritable addresses at both its ends. -/
theorem witness_AccessRefusedByAddress :
    (∀ a ∈ [(0x00 : Addr), 0x08, 0x0F, 0x1C, 0xA9, 0xC0, 0xF5, 0xF9, 0xFF],
      Pending (offering State.reset (.read a)) (.read a) [] ∧
      (a.toNat = 0x00 ∨ (0x08 ≤ a.toNat ∧ a.toNat ≤ 0x0F) ∨ (0x1C ≤ a.toNat ∧ a.toNat ≤ 0xA9) ∨
        (0xC0 ≤ a.toNat ∧ a.toNat ≤ 0xF5) ∨ 0xF9 ≤ a.toNat)) ∧
    (∀ a ∈ [(0x02 : Addr), 0xA9, 0xC0, 0xF5, 0xF9, 0xFF],
      Pending (offering State.reset (.write a 0x55)) (.write a 0x55) [] ∧
      ((0x02 ≤ a.toNat ∧ a.toNat ≤ 0xA9) ∨ (0xC0 ≤ a.toNat ∧ a.toNat ≤ 0xF5) ∨ 0xF9 ≤ a.toNat)) := by decide

theorem witness_UnguardedReadsDeliverTheirRegister :
    (∀ a ∈ [(0x01 : Addr), 0x03, 0x04, 0x05, 0x06, 0x07, 0xAA, 0xBF, 0xF6, 0xF8],
      Pending (offering State.reset (.read a)) (.read a) []) ∧
    BitVec.ofNat 8 (0xAA + (21 : Fin 22).val) = 0xBF ∧ BitVec.ofNat 8 (0xF6 + (2 : Fin 3).val) = 0xF8 := by decide

theorem witness_StatusReadShowsTheFlags :
    Pending (offering bootA (.read 0x02)) (.read 0x02) [] ∧ Pending (offering bootA (.write 0x02 0x00)) (.write 0x02 0x00) [] :=
  ⟨⟨rfl, rfl⟩, ⟨rfl, rfl⟩⟩

/-- The first and the last byte of each register, with the guarding flag 1 and 0. -/
theorem witness_GuardedReadsNeedTheirFlag :
    ∀ s ∈ [State.reset, { withB5 bootA 2399 150 with pv := true }], ∀ a ∈ [(0x10 : Addr), 0x13, 0x14, 0x17, 0x18, 0x1B],
      Pending (offering s (.read a)) (.read a) [] := by decide

theorem witness_ReadsChangeOnlyTheErrorLog :
    (Pending (offering State.reset (.read 0x14)) (.read 0x14) [] ∧
      ∃ s', step (offering State.reset (.read 0x14)) = .next s') ∧
    (Pending (offering State.reset (.read 0x02)) (.read 0x02) [] ∧
      ∃ s', step (offering State.reset (.read 0x02)) = .next s') := ⟨⟨⟨rfl, rfl⟩, _, rfl⟩, ⟨⟨rfl, rfl⟩, _, rfl⟩⟩

theorem witness_FourByteReadsReassembleTheResult :
    ((0x10 = 0x10) ∧ tc32 2399 = (withB5 bootA 2399 150).b5 ∧ (withB5 bootA 2399 150).tv = true) ∧
    ((0x14 = 0x14) ∧ tc32 150 = (withB5 bootA 2399 150).t ∧ (withB5 bootA 2399 150).tv = true) ∧
    ((0x18 = 0x18) ∧ tc32 (-1017) = (bootA.commitPressure (-1017) false).p ∧
      (bootA.commitPressure (-1017) false).pv = true) := ⟨⟨rfl, rfl, rfl⟩, ⟨rfl, rfl, rfl⟩, ⟨rfl, rfl, rfl⟩⟩

/-- The first and the last byte of CAL, locked and unlocked. -/
theorem witness_CalWriteStoresUntilLocked :
    ∀ s ∈ [State.reset, bootA], ∀ i ∈ [(0 : Fin 22), 21],
      Pending (offering s (.write (BitVec.ofNat 8 (0xAA + i.val)) 0x12)) (.write (BitVec.ofNat 8 (0xAA + i.val)) 0x12) [] := by
  decide

theorem witness_SampleWriteStoresAlways :
    ∀ s ∈ [State.reset, bootA], ∀ j ∈ [(0 : Fin 3), 2],
      Pending (offering s (.write (BitVec.ofNat 8 (0xF6 + j.val)) 0x6C)) (.write (BitVec.ofNat 8 (0xF6 + j.val)) 0x6C) [] := by
  decide

/-- The last value taken and the first refused. -/
theorem witness_ModeWriteTakesZeroToThree :
    (Pending (offering bootA (.write 0x01 0x03)) (.write 0x01 0x03) [] ∧ (0x03 : Byte).toNat ≤ 3) ∧
    (Pending (offering bootA (.write 0x01 0x04)) (.write 0x01 0x04) [] ∧ 3 < (0x04 : Byte).toNat) := by decide

/-- A CAL write (whose CALW clause has true premises) beside SB, and an OSS write beside CALW. -/
theorem witness_ByteWriteLeavesOtherAddressesAlone :
    (Pending (offering State.reset (.write 0xAA 0x12)) (.write 0xAA 0x12) [] ∧ (0xAA : Addr) ≠ 0x00 ∧
      (∃ s', step (offering State.reset (.write 0xAA 0x12)) = .next s') ∧ (0xF6 : Addr) ≠ 0xAA ∧ (0xF6 : Addr) ≠ 0x02 ∧
      (0xF6 : Addr) ≠ 0x03 ∧ (0xF6 : Addr) ≠ 0x04 ∧ (0xF6 : Addr) ≠ 0x05 ∧ (0xF6 : Addr) ≠ 0x06 ∧ (0xF6 : Addr) ≠ 0x07) ∧
    (Pending (offering State.reset (.write 0x01 0x02)) (.write 0x01 0x02) [] ∧ (0x01 : Addr) ≠ 0x00 ∧
      (∃ s', step (offering State.reset (.write 0x01 0x02)) = .next s') ∧ (0x05 : Addr) ≠ 0x01 ∧ (0x05 : Addr) ≠ 0x02 ∧
      (0x05 : Addr) ≠ 0x03 ∧ (0x05 : Addr) ≠ 0x04 ∧ ¬ (0xAA ≤ (0x01 : Addr).toNat)) :=
  ⟨⟨⟨rfl, rfl⟩, by decide, ⟨_, rfl⟩, by decide, by decide, by decide, by decide, by decide, by decide, by decide⟩,
    ⟨⟨rfl, rfl⟩, by decide, ⟨_, rfl⟩, by decide, by decide, by decide, by decide, by decide⟩⟩

theorem witness_ByteWritesAreIdempotent : State.reset.resetApplied = false ∧ (0xBF : Addr) ≠ 0x00 := by decide

theorem witness_EveryRefusalIsRecorded :
    (Pending (offering State.reset (.write 0x00 0x20)) (.write 0x00 0x20) [] ∧
      ∃ s', step (offering State.reset (.write 0x00 0x20)) = .next s' ∧ s'.answer = some (.write 5)) ∧
    (Pending (offering State.reset (.write 0x00 0x02)) (.write 0x00 0x02) [] ∧
      ∃ s', step (offering State.reset (.write 0x00 0x02)) = .next s' ∧ s'.answer = some (.write 0)) :=
  ⟨⟨⟨rfl, rfl⟩, _, rfl, rfl⟩, ⟨⟨rfl, rfl⟩, _, rfl, rfl⟩⟩

/-- The state of vector T8, whose CTEMP is refused with E_DIV0. -/
def t8 : State := sampled bootA 0x4F 0x3D 0x00

/-- The state of vector P7 (AC4 = 0), whose CPRES is refused with E_DIV0. -/
def p7 : State := sampled (withB5 { bootA with cal := (calA.set 6 0x00).set 7 0x00 } 2399 150) 0x5D 0x23 0x00

/-- The state of vector P8 (AC4 = 1), whose CPRES is refused with E_RANGE. -/
def p8 : State := sampled (withB5 { bootA with cal := (calA.set 6 0x00).set 7 0x01 } 2399 150) 0x5D 0x23 0x00

theorem witness_RefusalLeavesTheStateR164Says :
    (∃ s', step (offering State.reset (.write 0x00 0x01)) = .next s' ∧ s'.answer = some (.write 5)) ∧
    (∃ s', step (offering State.reset (.read 0x1B)) = .next s' ∧ s'.answer = some (.read 0x00 6)) ∧
    (∃ s', step (offering t8 (.write 0x00 0x20)) = .next s' ∧ s'.answer = some (.write 7)) ∧
    (∃ s', step (offering p7 (.write 0x00 0x21)) = .next s' ∧ s'.answer = some (.write 7)) ∧
    (∃ s', step (offering p8 (.write 0x00 0x21)) = .next s' ∧ s'.answer = some (.write 8)) :=
  ⟨⟨_, rfl, rfl⟩, ⟨_, rfl, rfl⟩, ⟨_, rfl, rfl⟩, ⟨_, rfl, rfl⟩, ⟨_, rfl, rfl⟩⟩

theorem witness_LockSetsCalvOrIsRefused :
    bootA.calv = true ∧
    (State.reset.calv = false ∧ (⟨21, by decide⟩ : Fin 22) = 21 ∧ State.reset.calw.getLsbD 21 = false) ∧
    ({ bootA with calv := false }.calv = false ∧ ∀ i : Fin 22, { bootA with calv := false }.calw.getLsbD i.val = true) := by
  decide

theorem witness_RepeatedCommandIsRefused :
    (∃ s', exec .lock { bootA with calv := false } = .next s' ∧ s'.answer = some (.write 0)) ∧
    (∃ s', exec .ctemp (sampled bootA 0x6C 0xFA 0x00) = .next s' ∧ s'.answer = some (.write 0)) ∧
    (∃ s', exec .cpres (sampled (withB5 bootA 2399 150) 0x5D 0x23 0x00) = .next s' ∧ s'.answer = some (.write 0)) :=
  ⟨⟨_, rfl, rfl⟩, ⟨_, rfl, rfl⟩, ⟨_, rfl, rfl⟩⟩

theorem witness_CommandsStoreToNoByteRegister :
    (∃ s', exec .ctemp (sampled bootA 0x6C 0xFA 0x00) = .next s') ∧
    ((0x05 ≤ (0x07 : Addr).toNat ∧ (0x07 : Addr).toNat ≤ 0x07) ∧ (0xAA ≤ (0xBF : Addr).toNat ∧ (0xBF : Addr).toNat ≤ 0xBF) ∧
      (0xF6 ≤ (0xF8 : Addr).toNat ∧ (0xF8 : Addr).toNat ≤ 0xF8)) := ⟨⟨_, rfl⟩, by decide⟩

theorem witness_DivisionAndShiftAreFloor :
    FloorQuot (-17840128) 7611 (-2344) ∧ FloorQuot 7 (-2) (-4) ∧ FloorQuot (-7) (-2) 3 ∧ FloorQuot (-3950) (2 ^ 4) (-247) := by
  decide

theorem witness_RawPressureIsTheShiftedSample : State.reset.oss = 0 := rfl

theorem witness_CtempIsRefusedExactlyWithoutItsInputs :
    ¬ TempInputs State.reset ∧ TempInputs t8 ∧ ∃ s', exec .ctemp t8 = .next s' := ⟨by decide, by decide, _, rfl⟩

/-- Vector T1, the worked example S1. -/
theorem witness_CtempCommitsTheChain :
    TempInputs (sampled bootA 0x6C 0xFA 0x00) ∧
    TempChain (sampled bootA 0x6C 0xFA 0x00) ⟨4745, 155431965, 4743, 7611, -17840128, -2344, 2399, 150⟩ := by decide

/-- Vector T8. -/
theorem witness_CtempZeroDivisorIsRefused :
    TempInputs t8 ∧ TempDivisor t8 ⟨-2868, -93947076, -2868, 0, 0, 0, 0, 0⟩ := by decide

/-- Vector T7 (`d = -1`), and a CTEMP that answers. -/
theorem witness_TemperatureChainStaysInBounds :
    tempD (sampled bootA 0x4F 0x3C 0x00) ≠ 0 ∧
    TempChain (sampled bootA 0x4F 0x3C 0x00) ⟨-2869, -93979833, -2869, -1, -17840128, 17840128, 17837259, 1114829⟩ ∧
    ∃ s', exec .ctemp t8 = .next s' := ⟨by decide, by decide, _, rfl⟩

theorem witness_CpresIsRefusedExactlyWithoutItsInputs :
    ¬ PresInputs (sampled bootA 0x5D 0x23 0x00) ∧ PresInputs p8 ∧ ∃ s', exec .cpres p8 = .next s' :=
  ⟨by decide, by decide, _, rfl⟩

/-- The state of the worked example S1 before its CPRES. -/
def s1State : State := sampled (withB5 bootA 2399 150) 0x5D 0x23 0x00

/-- S1's values up to B7. -/
def s1Values : PresValues :=
  ⟨23843, -1601, 2563201, 625, 2500, 1, 115272, 56, 57, 1689, 1689, 1691, 422, 23027183, 2810, 3868750, 59, 2871, 717, 33485,
    1096332385, 33457, 50000, 23421, 1171050000⟩

/-- S1's values after `p`. -/
def s1Tail : TailValues := ⟨273, 74529, 226419102, 3454, -515012071, -7859, -614, -39, 69964⟩

theorem s1_front : PresFront s1State s1Values := by
  repeat' apply And.intro
  all_goals decide

theorem s1_tail : PresTail 70003 s1Tail := by decide

/-- S1 (branch 0). -/
theorem witness_CpresCommitsTheChain :
    PresInputs s1State ∧ PresFront s1State s1Values ∧ s1Values.b4 ≠ 0 ∧ PresQuotient s1Values.b7 s1Values.b4 0 70003 ∧
      PresTail 70003 s1Tail ∧ -2147483648 ≤ s1Tail.pp ∧ s1Tail.pp ≤ 2147483647 :=
  ⟨by decide, s1_front, by decide, by decide, s1_tail, by decide, by decide⟩

/-- Vector S6 and S8's quotient (branch 1), at the reachable value of B7 next above 2^31. -/
theorem witness_second_branch : PresQuotient 2147487500 33457 64186 128372 ∧ PresQuotient 2147481250 33457 0 128372 := by
  repeat' apply And.intro
  all_goals decide

/-- Vector P7. -/
theorem witness_CpresZeroDivisorIsRefused :
    PresInputs p7 ∧ PresFront p7 { s1Values with e1 := 0, b4 := 0 } ∧ ({ s1Values with e1 := 0, b4 := 0 } : PresValues).b4 = 0 := by
  repeat' apply And.intro
  all_goals decide

/-- Vector P8's values after `p`. -/
def p8Tail : TailValues :=
  ⟨9148828, 83701053773584, 254283801364148192, 3880062887026, -17230829700000, -262921596, 3879799969221, 242487498076,
    244829598076⟩

/-- Vector P8. -/
theorem witness_CpresOutOfRangeIsRefused :
    PresInputs p8 ∧ PresFront p8 { s1Values with e1 := 33485, b4 := 1 } ∧ (1 : Int) ≠ 0 ∧
      PresQuotient 1171050000 1 0 2342100000 ∧ PresTail 2342100000 p8Tail ∧ 2147483647 < p8Tail.pp := by
  repeat' apply And.intro
  all_goals decide

theorem witness_OnlyLargePressuresAreOutOfRange : 2147483647 < pascalOf 2342100000 := by decide

theorem witness_PressureChainFitsSixtyFourBits :
    -67141633 ≤ s1State.b5.toInt ∧ s1State.b5.toInt ≤ 67141633 ∧ presB4 s1State ≠ 0 :=
  ⟨by decide, by decide, by decide⟩

theorem witness_SuccessfulTailFitsSixtyFourBits : fits32 (pascalOf 70003) = true := by decide

/-- Two values of B7 on the lower side and two on the upper side of 2^31. -/
theorem witness_BranchFormulasAgreeWithinOne :
    (0 : Int) < 33457 ∧
    (branchOf 1171050000 = false ∧ branchOf 1171050000 = branchOf 2147483647 ∧ (1171050000 : Int) ≤ 2147483647) ∧
    (branchOf 2147483648 = true ∧ branchOf 2147483648 = branchOf 2147500000 ∧ (2147483648 : Int) ≤ 2147500000) := by decide

/-- A state in each of the four modes. -/
theorem witness_ThresholdItselfIsNeverReached :
    s1State.oss = 0 ∧ (s1State.putOss 1).oss = 1 ∧ (s1State.putOss 2).oss = 2 ∧ (s1State.putOss 3).oss = 3 :=
  ⟨rfl, rfl, rfl, rfl⟩

theorem witness_ResetSetsEveryItem : { bootA with inputs := [HostEvent.resetApply] }.inputs = [.resetApply] := rfl

theorem witness_TransactionsSeeTheResetStateOnlyAfterRelease :
    { bootA with inputs := [HostEvent.resetApply, .transaction (.read 0x02)] }.inputs
      = [.resetApply, .transaction (.read 0x02)] ∧
    { bootA with inputs := [HostEvent.resetApply, .resetRelease, .transaction (.read 0x02)] }.inputs
      = [.resetApply, .resetRelease, .transaction (.read 0x02)] := ⟨rfl, rfl⟩

/-- A locked engine that takes a write to CAL, and an unlocked one that locks. -/
theorem witness_OnlyLockSetsAndOnlyResetClearsCalv :
    ((∃ s', step (offering bootA (.write 0xAA 0x00)) = .next s') ∧
      (∀ es, (offering bootA (.write 0xAA 0x00)).inputs ≠ .resetApply :: es) ∧ bootA.calv = true) ∧
    (∃ s', step (offering { bootA with calv := false } (.write 0x00 0x01)) = .next s' ∧ s'.calv = true) :=
  ⟨⟨⟨_, rfl⟩, by intro es; simp [offering], rfl⟩, ⟨_, rfl, rfl⟩⟩

theorem witness_CalwRecordsTheWrittenBytes :
    (∃ s', step (offering State.reset (.write 0xBF 0x34)) = .next s' ∧ s'.calw.getLsbD 21 = true) ∧
    State.reset.calw.getLsbD 21 = false ∧ (∀ es, (offering State.reset (.write 0xBF 0x34)).inputs ≠ .resetApply :: es) ∧
    (∃ s', step (offering bootA (.write 0xBF 0x34)) = .next s' ∧ bootA.calw.getLsbD 0 = true) :=
  ⟨⟨_, rfl, rfl⟩, rfl, by intro es; simp [offering], ⟨_, rfl, rfl⟩⟩

theorem witness_LockedCoefficientsNeverChange :
    bootA.calv = true ∧ noReset (offering bootA (.write 0xAA 0x00)).inputs = true ∧
      ∃ s', run 1 (offering bootA (.write 0xAA 0x00)) = .next s' := ⟨rfl, rfl, _, rfl⟩

theorem witness_RegistersAreWrittenOnlyByTheirOwnTransaction :
    (∃ s', step (offering (sampled bootA 0x6C 0xFA 0x00) (.write 0x00 0x20)) = .next s' ∧ s'.b5 ≠ 0) ∧
    (∃ s', step (offering s1State (.write 0x00 0x21)) = .next s' ∧ s'.p ≠ 0) ∧
    (∃ s', step (offering State.reset (.write 0x01 0x03)) = .next s' ∧ s'.oss ≠ 0) ∧
    (∃ s', step (offering State.reset (.write 0xF8 0x03)) = .next s' ∧ s'.sb[2] ≠ State.reset.sb[2]) :=
  ⟨⟨_, rfl, by decide⟩, ⟨_, rfl, by decide⟩, ⟨_, rfl, by decide⟩, ⟨_, rfl, by decide⟩⟩

theorem witness_ValidFlagsFollowTheResults :
    (∃ s', step (offering (sampled bootA 0x6C 0xFA 0x00) (.write 0x00 0x20)) = .next s' ∧ bootA.tv = false ∧ s'.tv = true) ∧
    (∃ s', step (offering (sampled (withB5 bootA 2399 150) 0x4F 0x3D 0x00) (.write 0x00 0x20)) = .next s' ∧ s'.tv = false) ∧
    (∃ s', step (offering s1State (.write 0x00 0x21)) = .next s' ∧ s1State.pv = false ∧ s'.pv = true) ∧
    (∃ s', step (offering { s1State with pv := true } (.write 0x00 0x20)) = .next s' ∧ s'.pv = false) ∧
    (∃ s', step (offering { p7 with pv := true } (.write 0x00 0x21)) = .next s' ∧ s'.pv = false) :=
  ⟨⟨_, rfl, rfl, rfl⟩, ⟨_, rfl, rfl⟩, ⟨_, rfl, rfl, rfl⟩, ⟨_, rfl, rfl⟩, ⟨_, rfl, rfl⟩⟩

theorem witness_StepKeepsTheInvariant :
    EngineInv (offering State.reset (.write 0x00 0x01)) ∧ ∃ s', step (offering State.reset (.write 0x00 0x01)) = .next s' :=
  ⟨by decide, _, rfl⟩

theorem witness_ReachableStatesMeetR42 :
    ∃ s, run 1 { State.reset with inputs := [.transaction (.write 0xF6 0x6C)] } = .next s := ⟨_, rfl⟩

theorem witness_ThirdSampleByteIsIgnored : bootA.oss = 0 := rfl

theorem witness_ErrorLogGatesNothing :
    SameButLog (offering bootA (.write 0x00 0x20)) { offering bootA (.write 0x00 0x20) with err := 0x11, ecause := 5 } ∧
    (∀ e ∈ (offering bootA (.write 0x00 0x20)).inputs, readsLog e = false) ∧
    ∃ s', run 1 (offering bootA (.write 0x00 0x20)) = .next s' := ⟨rfl, by decide, _, rfl⟩

theorem witness_UnguardedBitsAreUnobservable :
    SameVisible (offering bootA (.read 0x14)) { offering bootA (.read 0x14) with b5 := 7, t := 8, p := 9 } ∧
    ∃ s', run 1 (offering bootA (.read 0x14)) = .next s' :=
  ⟨⟨rfl, fun h => absurd h (by decide), fun h => absurd h (by decide)⟩, _, rfl⟩

/-- Without and with the optional write of the mode. -/
theorem witness_InitialisationLoadsAndLocksTheBlock :
    calA.toList.length = 22 ∧ State.reset.calv = false ∧ State.reset.resetApplied = false ∧
    { State.reset with inputs := asInputs (initSequence Config.chipIdExpected calA.toList none) }.inputs
      = asInputs (initSequence Config.chipIdExpected calA.toList none) ++ [] ∧
    { State.reset with inputs := asInputs (initSequence Config.chipIdExpected calA.toList (some 3)) }.inputs
      = asInputs (initSequence Config.chipIdExpected calA.toList (some 3)) ++ [] := ⟨rfl, rfl, rfl, by simp, by simp⟩

theorem witness_MismatchedChipLeavesEveryChainRefused :
    (Config.chipIdExpected + 1 ≠ Config.chipIdExpected) ∧ State.reset.calv = false := by
  refine ⟨?_, rfl⟩
  have h : ∀ b : Byte, b + 1 ≠ b := by decide
  exact h _

/-- `TEMP 27898` on set A: vector T1. -/
theorem witness_TempLineCompensatesItsOperand :
    (ScriptLine.temp 27898).wellFormed = true ∧ bootA.calv = true ∧ bootA.resetApplied = false ∧
    { bootA with inputs := asInputs (ScriptLine.temp 27898).expand }.inputs = asInputs (ScriptLine.temp 27898).expand ++ [] ∧
    TempChain { bootA with sb := (bootA.sb.set 0 (BitVec.ofNat 8 (27898 / 256))).set 1 (BitVec.ofNat 8 (27898 % 256)) }
      ⟨4745, 155431965, 4743, 7611, -17840128, -2344, 2399, 150⟩ := by decide

end Sys2Proof.Tests
end

/-! # Scope: the floor operators of R11 and the idle step of R14

`fdiv_eq_iff_of_pos` and `fdiv_eq_iff_of_neg` fix `fdiv` by the rules' inequalities, one for each sign of the divisor;
`floorQuot_iff_fdiv` and `floorQuot_iff_asr` join them into the vocabulary of the statements. -/

namespace Sys2Proof.Machine

open Sys2Proof.Rule

/-- `fdiv` by a positive divisor, fixed by its two bounds (R11). -/
theorem fdiv_eq_iff_of_pos {a b q : Int} (hb : 0 < b) : fdiv a b = q ↔ q * b ≤ a ∧ a < (q + 1) * b := by
  rw [fdiv_eq_ediv_of_pos hb, Int.ediv_eq_iff_of_pos hb, add_one_mul]

/-- `fdiv` by a negative divisor, fixed by its two bounds: those of the positive case for `-a` and `-b` (R11). -/
theorem fdiv_eq_iff_of_neg {a b q : Int} (hb : b < 0) : fdiv a b = q ↔ (q + 1) * b < a ∧ a ≤ q * b := by
  have hneg : fdiv a b = fdiv (-a) (-b) := (Int.neg_fdiv_neg a b).symm
  rw [hneg, fdiv_eq_iff_of_pos (neg_pos.2 hb), mul_neg, mul_neg, neg_le_neg_iff, neg_lt_neg_iff, and_comm]

/-- `fdiv` gives the one floor quotient, whatever the signs (R11; log entry 5). -/
theorem floorQuot_iff_fdiv {a b q : Int} (hb : b ≠ 0) : FloorQuot a b q ↔ fdiv a b = q := by
  rcases lt_or_gt_of_ne hb with hneg | hpos
  · simp [FloorQuot, fdiv_eq_iff_of_neg hneg, hb, hneg, hneg.le]
  · simp [FloorQuot, fdiv_eq_iff_of_pos hpos, hb, hpos, hpos.le]

/-- The general division and the shift agree at powers of two (R11). -/
theorem fdiv_two_pow (a : Int) (k : Nat) : fdiv a (2 ^ k) = asr a k := by
  rw [fdiv_eq_ediv_of_pos (by positivity), asr_eq_ediv]

/-- `>>` gives the one floor quotient by a power of two (R11). -/
theorem floorQuot_iff_asr {a q : Int} {k : Nat} : FloorQuot a (2 ^ k) q ↔ asr a k = q := by
  rw [floorQuot_iff_fdiv (by positivity), fdiv_two_pow]

end Sys2Proof.Machine

namespace Sys2Proof.Proofs

open Sys2Proof.Machine

/-- Settles O26: it holds, since the normative `DIV_ROUND` is floor; a shift is the same division by a power of two. -/
theorem divisionAndShiftAreFloor : Obligations.DivisionAndShiftAreFloor :=
  ⟨fun _ _ _ hb => floorQuot_iff_fdiv hb, fun _ _ _ => floorQuot_iff_asr,
    fun a k => ⟨fdiv_two_pow a k, shl_eq a k⟩⟩

/-- Settles O6: it holds, by the idle case of the step. -/
theorem idleEngineKeepsItsState : Obligations.IdleEngineKeepsItsState := fun _ h => step_idle h

end Sys2Proof.Proofs

/-! # Scope: the state (`10_state.md`)

`StepEffect` lists everything one step can do to the state, once; `step_effect` proves it of `step` from the inversion
lemmas of the port and of the commands. The statements about single steps are then a case split over it. -/

namespace Sys2Proof.Machine

/-- A decoded byte is the command's own byte (R72). -/
theorem eq_encode_of_decode {b : Byte} {i : Instr} (h : decode b = .ok i) : b = encode i := by
  have hall : ∀ b : Byte, (decode b).toOption.all (fun i => b == encode i) = true := by decide
  simpa [h, Except.toOption] using hall b

/-- Everything one step can do. The state before is `s`; `s.withInputs es` is `s` once its first input is taken. Of a
refusal that changes only the log and the answer it says no more than that. -/
inductive StepEffect (s : State) : State → Prop
  /-- No input is pending (R14). -/
  | idle (hin : s.inputs = []) : StepEffect s s
  /-- Reset is applied (R190). -/
  | resetApplied {es} (hin : s.inputs = .resetApply :: es) : StepEffect s (s.withInputs es).applyReset
  /-- Reset is released (R192). -/
  | resetReleased {es} (hin : s.inputs = .resetRelease :: es) : StepEffect s (s.withInputs es).releaseReset
  /-- A read delivers its byte (R52). -/
  | readDelivered {a d es} (hin : s.inputs = .transaction (.read a) :: es) (hd : peek a (s.withInputs es) = .ok d) :
      StepEffect s ((s.withInputs es).okRead d)
  /-- A transaction is refused with nothing done (R163, R164). -/
  | refused {t x e es} (hin : s.inputs = .transaction t :: es) : StepEffect s ((s.withInputs es).raise x e)
  /-- OSS is written (R58). -/
  | ossWritten {d es} (hin : s.inputs = .transaction (.write 0x01 d) :: es) (hd : d.toNat ≤ 3) :
      StepEffect s ((s.withInputs es).putOss (d.setWidth 2)).okWrite
  /-- A byte of the unlocked block is written (R56). -/
  | calWritten {i d es} (hin : s.inputs = .transaction (.write (Reg.cal i).addr d) :: es) (hc : s.calv = false) :
      StepEffect s ((s.withInputs es).putCal i d).okWrite
  /-- A sample byte is written (R57). -/
  | sbWritten {j d es} (hin : s.inputs = .transaction (.write (Reg.sb j).addr d) :: es) :
      StepEffect s ((s.withInputs es).putSb j d).okWrite
  /-- LOCK succeeds (R90). -/
  | locked {es} (hin : s.inputs = commandWrite 0x01 :: es) (hc : s.calv = false) (hw : allCalWritten s = true) :
      StepEffect s (s.withInputs es).lockCal.okWrite
  /-- CLRERR succeeds (R91). -/
  | logCleared {es} (hin : s.inputs = commandWrite 0x02 :: es) : StepEffect s (s.withInputs es).clearErrors.okWrite
  /-- CTEMP stops at a zero divisor (R105). -/
  | tempDivZero {es} (hin : s.inputs = commandWrite 0x20 :: es) (hr : ctempReady s = true) (hd : tempD s = 0) :
      StepEffect s ((s.withInputs es).consumeSample.dropPressure.dropTemperature.raise .write .div0)
  /-- CTEMP succeeds (R109). -/
  | tempCommitted {es} (hin : s.inputs = commandWrite 0x20 :: es) (hr : ctempReady s = true) (hd : tempD s ≠ 0) :
      StepEffect s ((s.withInputs es).consumeSample.dropPressure.commitTemperature (tempB5 s) (tempT s)).okWrite
  /-- CPRES stops at a zero divisor (R135). -/
  | presDivZero {es} (hin : s.inputs = commandWrite 0x21 :: es) (hr : cpresReady s = true) (hd : presB4 s = 0) :
      StepEffect s ((s.withInputs es).consumeSample.dropPressure.raise .write .div0)
  /-- CPRES stops at a pressure out of range (R140). -/
  | presOutOfRange {es} (hin : s.inputs = commandWrite 0x21 :: es) (hr : cpresReady s = true) (hd : presB4 s ≠ 0)
      (hf : fits32 (presPP s) = false) :
      StepEffect s ((s.withInputs es).consumeSample.dropPressure.raise .write .range)
  /-- CPRES succeeds (R141). -/
  | presCommitted {es} (hin : s.inputs = commandWrite 0x21 :: es) (hr : cpresReady s = true) (hd : presB4 s ≠ 0)
      (hf : fits32 (presPP s) = true) :
      StepEffect s ((s.withInputs es).consumeSample.commitPressure (presPP s) (branchOf (presB7 s))).okWrite

/-- What a command byte at the head of the inputs does. -/
theorem StepEffect.of_exec {s s' : State} {i : Instr} {es : List HostEvent} (hin : s.inputs = commandWrite (encode i) :: es)
    (h : exec i (s.withInputs es) = .next s') : StepEffect s s' := by
  cases i with
  | lock =>
    obtain ⟨-, rfl⟩ | ⟨hc, hw, rfl⟩ | ⟨-, -, rfl⟩ := execLock_cases h
    · exact .refused hin
    · exact .locked hin hc hw
    · exact .refused hin
  | clrerr =>
    obtain rfl : _ = s' := Host.Outcome.next.inj h
    exact .logCleared hin
  | ctemp =>
    obtain ⟨-, rfl⟩ | ⟨hr, hd, rfl⟩ | ⟨hr, hd, rfl⟩ := execCtemp_cases h
    · exact .refused hin
    · exact .tempDivZero hin hr hd
    · exact .tempCommitted hin hr hd
  | cpres =>
    obtain ⟨-, rfl⟩ | ⟨hr, hd, rfl⟩ | ⟨hr, hd, hf, rfl⟩ | ⟨hr, hd, hf, rfl⟩ := execCpres_cases h
    · exact .refused hin
    · exact .presDivZero hin hr hd
    · exact .presCommitted hin hr hd hf
    · exact .presOutOfRange hin hr hd hf

/-- What a write at the head of the inputs does. -/
theorem StepEffect.of_memWrite {s s' : State} {a : Addr} {d : Byte} {es : List HostEvent}
    (hin : s.inputs = .transaction (.write a d) :: es) (h : memWrite a d (s.withInputs es) = .next s') :
    StepEffect s s' := by
  obtain ⟨e, -, rfl⟩ | ⟨i, rfl, hd, hx⟩ | ⟨rfl, hd, rfl⟩ | ⟨i, ha, hc, rfl⟩ | ⟨j, ha, rfl⟩ := memWrite_cases h
  · exact .refused hin
  · rw [eq_encode_of_decode hd] at hin
    exact .of_exec hin hx
  · exact .ossWritten hin hd
  · rw [← addr_of_regAt a _ ha] at hin
    exact .calWritten hin hc
  · rw [← addr_of_regAt a _ ha] at hin
    exact .sbWritten hin

/-- A step has one of the listed effects. -/
theorem step_effect {s s' : State} (h : step s = .next s') : StepEffect s s' := by
  obtain ⟨hin, rfl⟩ | ⟨es, hin, rfl⟩ | ⟨es, hin, rfl⟩ | ⟨t, es, hin, -, ht⟩ := step_cases h
  · exact .idle hin
  · exact .resetApplied hin
  · exact .resetReleased hin
  · cases t with
    | read a =>
      obtain rfl : _ = s' := Host.Outcome.next.inj ht
      obtain ⟨d, hpeek, hd⟩ | ⟨e, -, he⟩ := memRead_cases a (s.withInputs es)
      · rw [hd]; exact .readDelivered hin hpeek
      · rw [he]; exact .refused hin
    | write a d => exact .of_memWrite hin ht

end Sys2Proof.Machine

/-! ## The locked life of the coefficients (R22, R23) -/

namespace Sys2Proof.Machine

open Sys2Proof.Rule

/-- A step that is not reset keeps CALV, CAL and CALW of a locked engine (R23, R191). -/
theorem step_keeps_locked {s s' : State} (h : step s = .next s') (hnr : ∀ es, s.inputs ≠ .resetApply :: es)
    (hc : s.calv = true) : s'.calv = true ∧ s'.cal = s.cal ∧ s'.calw = s.calw := by
  cases step_effect h with
  | resetApplied hin => exact absurd hin (hnr _)
  | calWritten _ hu => simp [hu] at hc
  | _ => simp [hc]

/-- A step takes the first pending input. -/
theorem step_inputs {s s' : State} (h : step s = .next s') : s'.inputs = s.inputs.tail := by
  cases step_effect h <;> simp [*]

theorem noReset_tail {es : List HostEvent} (h : noReset es = true) : noReset es.tail = true := by
  cases es with
  | nil => rfl
  | cons e es => cases e <;> simp_all [noReset]

theorem ne_resetApply_of_noReset {s : State} (h : noReset s.inputs = true) (es : List HostEvent) :
    s.inputs ≠ .resetApply :: es := by
  intro hin
  simp [hin, noReset] at h

/-- `r` is locked with the calibration block of `s`, and no reset is pending. -/
def LockedWith (s r : State) : Prop :=
  r.calv = true ∧ r.cal = s.cal ∧ r.calw = s.calw ∧ noReset r.inputs = true

theorem step_keeps_lockedWith {s r r' : State} (h : LockedWith s r) (hstep : step r = .next r') : LockedWith s r' := by
  obtain ⟨hc, hcal, hcalw, hnr⟩ := h
  obtain ⟨hc', hcal', hcalw'⟩ := step_keeps_locked hstep (ne_resetApply_of_noReset hnr) hc
  exact ⟨hc', hcal'.trans hcal, hcalw'.trans hcalw, step_inputs hstep ▸ noReset_tail hnr⟩

/-- A coefficient is a function of the CAL bytes alone (R24). -/
theorem coef_congr {s s' : State} (h : s'.cal = s.cal) (c : CoefName) : coef s' c = coef s c := by
  simp [coef, coefAt, coefWord, h]

theorem allCalWritten_iff (s : State) : allCalWritten s = true ↔ ∀ i < 22, s.calw.getLsbD i = true := by
  rw [allCalWritten, beq_iff_eq, BitVec.eq_of_getLsbD_eq_iff]
  refine forall₂_congr fun i hi => ?_
  simp only [BitVec.getLsbD_allOnes, hi, decide_true]

end Sys2Proof.Machine

namespace Sys2Proof.Proofs

open Sys2Proof.Machine Sys2Proof.Rule

/-- Settles O47: it holds, by induction over the run with `step_keeps_lockedWith`. -/
theorem lockedCoefficientsNeverChange : Obligations.LockedCoefficientsNeverChange := by
  intro n s s' hc hnr hrun
  obtain ⟨hcalv, hcal, hcalw, -⟩ : LockedWith s s' :=
    run_invariant (LockedWith s) (fun _ _ => step_keeps_lockedWith) n s s' ⟨hc, rfl, rfl, hnr⟩ hrun
  exact ⟨hcalv, hcal, hcalw, coef_congr hcal⟩

/-- Settles O45: it holds; of the effects of a step only LOCK's sets CALV, and a locked engine refuses a CAL write. -/
theorem onlyLockSetsAndOnlyResetClearsCalv : Obligations.OnlyLockSetsAndOnlyResetClearsCalv := by
  refine ⟨rfl, fun s s' h hnr => ⟨fun hc => ?_, fun hu hc => ?_⟩⟩
  · obtain ⟨hcalv, hcal, -⟩ := step_keeps_locked h hnr hc
    exact ⟨hcalv, hcal⟩
  · cases step_effect h with
    | locked hin _ hw => exact ⟨⟨_, hin⟩, rfl, fun i => (allCalWritten_iff s).1 hw i i.isLt⟩
    | _ => simp [hu] at hc

/-- Settles O46: it holds; only a write to the unlocked block touches CALW, and it sets the written byte's flag alone. -/
theorem calwRecordsTheWrittenBytes : Obligations.CalwRecordsTheWrittenBytes := by
  intro s s' i h hnr
  cases step_effect h with
  | resetApplied hin => exact absurd hin (hnr _)
  | @calWritten k d es hin hu =>
    simp only [State.okWrite_calw, putCal_flag _ _ _ _ i.isLt, State.withInputs_calw]
    refine ⟨fun hw => by simp [hw], fun hw hw' => ?_⟩
    obtain rfl : i = k := Fin.ext (by rwa [hw, Bool.false_or, decide_eq_true_eq] at hw')
    exact ⟨hu, d, es, hin, putCal_same _ i d⟩
  | _ => simp +contextual

end Sys2Proof.Proofs

/-! ## Coefficients and the range of B5 (R24, R110) -/

namespace Sys2Proof.Machine

open Sys2Proof.Rule

/-- Two bytes joined are an unsigned 16-bit number (R24). -/
theorem append_toNat_eq_u16 (hi lo : Byte) : ((hi ++ lo).toNat : Int) = u16 hi lo := by
  rw [append_toNat, u16]
  push_cast
  rfl

/-- Two bytes joined are a two's-complement 16-bit number (R10, R24). -/
theorem append_toInt_eq_s16 (hi lo : Byte) : (hi ++ lo).toInt = s16 hi lo := by
  rw [BitVec.toInt_eq_toNat_cond, append_toNat, s16, u16]
  split_ifs <;> push_cast <;> omega

/-- A coefficient read as unsigned is its two bytes (R24). -/
theorem coefAt_of_unsigned {s : State} {k : Fin 11} (h : coefUnsigned k = true) :
    coefAt s k = u16 s.cal[2 * k.val] s.cal[2 * k.val + 1] := by
  rw [coefAt, if_pos h, coefWord, append_toNat_eq_u16]

/-- Every other coefficient is its two bytes in two's complement (R24). -/
theorem coefAt_of_signed {s : State} {k : Fin 11} (h : coefUnsigned k = false) :
    coefAt s k = s16 s.cal[2 * k.val] s.cal[2 * k.val + 1] := by
  rw [coefAt, if_neg (by simp [h]), coefWord, append_toInt_eq_s16]

theorem u16_bounds (hi lo : Byte) : 0 ≤ u16 hi lo ∧ u16 hi lo ≤ 65535 := by
  have := hi.isLt
  have := lo.isLt
  unfold u16
  omega

theorem s16_abs_le (hi lo : Byte) : |s16 hi lo| ≤ 32768 := by
  have := u16_bounds hi lo
  unfold s16
  split_ifs <;> rw [abs_le] <;> omega

/-- A quotient is bounded by `bound` when its dividend is by `bound` times the divisor (R11). -/
theorem fdiv_abs_le {a b bound : Int} (hb : b ≠ 0) (h : |a| ≤ bound * |b|) : |fdiv a b| ≤ bound := by
  wlog hpos : 0 < b generalizing a b
  · have hneg : fdiv a b = fdiv (-a) (-b) := (Int.neg_fdiv_neg a b).symm
    rw [hneg]
    exact this (neg_ne_zero.2 hb) (by simpa using h) (by omega)
  rw [abs_of_pos hpos, abs_le] at h
  rw [fdiv_eq_ediv_of_pos hpos, abs_le]
  exact ⟨Int.le_ediv_of_mul_le hpos (by linarith), Int.ediv_le_of_le_mul hpos h.2⟩

theorem tempT0_abs_le (s : State) : |tempT0 s| ≤ 65535 := by
  have hut : rawTemp s = u16 s.sb[0] s.sb[1] := append_toNat_eq_u16 _ _
  have hac6 : coef s .AC6 = u16 s.cal[10] s.cal[11] := coefAt_of_unsigned rfl
  have := u16_bounds s.sb[0] s.sb[1]
  have := u16_bounds s.cal[10] s.cal[11]
  rw [tempT0, hut, hac6, abs_le]
  omega

/-- `t1` is a product of two 16-bit magnitudes, so its shift `X1t` is below `2^17` (R110). -/
theorem tempX1_abs_le (s : State) : |tempX1 s| ≤ 131072 := by
  have hac5 : coef s .AC5 = u16 s.cal[8] s.cal[9] := coefAt_of_unsigned rfl
  have hbound := u16_bounds s.cal[8] s.cal[9]
  refine asr_abs_le 15 ?_
  calc |tempT1 s| = |tempT0 s| * |coef s .AC5| := abs_mul _ _
    _ ≤ 65535 * 65535 := by
      refine mul_le_mul (tempT0_abs_le s) ?_ (abs_nonneg _) (by norm_num)
      rw [hac5, abs_of_nonneg hbound.1]
      exact hbound.2
    _ ≤ 131072 * 2 ^ 15 := by norm_num

/-- `n` is a 16-bit magnitude shifted by 11 (R106). -/
theorem tempN_abs_le (s : State) : |tempN s| ≤ 67108864 := by
  have hmc : coef s .MC = s16 s.cal[18] s.cal[19] := coefAt_of_signed rfl
  have := abs_le.1 (s16_abs_le s.cal[18] s.cal[19])
  rw [tempN, shl_eq, hmc, abs_le]
  omega

/-- B5 is in the range of R110. With `|d| = 1` the quotient can be `2^26`, but then `X1t = d - coef(MD)` is small; with
`|d| ≥ 2` the quotient is at most `2^25`. -/
theorem tempB5_abs_le {s : State} (hd : tempD s ≠ 0) : |tempB5 s| ≤ 67141633 := by
  have hmd : tempD s = tempX1 s + s16 s.cal[20] s.cal[21] := congrArg (tempX1 s + ·) (coefAt_of_signed rfl)
  have hmdb := abs_le.1 (s16_abs_le s.cal[20] s.cal[21])
  have hn := tempN_abs_le s
  have hdpos : 0 < |tempD s| := abs_pos.2 hd
  rw [tempB5, abs_le]
  rcases eq_or_lt_of_le (Int.add_one_le_iff.2 hdpos) with hone | htwo
  · have hx2 : |tempX2 s| ≤ 67108864 := fdiv_abs_le hd (by omega)
    have := abs_le.1 hone.ge
    rw [abs_le] at hx2
    omega
  · have hx1 := abs_le.1 (tempX1_abs_le s)
    have hx2 : |tempX2 s| ≤ 33554432 := fdiv_abs_le hd (by omega)
    rw [abs_le] at hx2
    omega

/-- The committed B5 is read back as the value of the chain. -/
theorem tc32_tempB5_toInt {s : State} (hd : tempD s ≠ 0) : (tc32 (tempB5 s)).toInt = tempB5 s := by
  have := abs_le.1 (tempB5_abs_le hd)
  exact tc32_toInt (by omega)

/-- The committed T is read back as the rounding of B5 (R31, R108). -/
theorem tc32_tempT_toInt {s : State} (hd : tempD s ≠ 0) : (tc32 (tempT s)).toInt = asr (tempB5 s + 8) 4 := by
  have hb5 := abs_le.1 (tempB5_abs_le hd)
  have ht : |tempT s| ≤ 67141633 := asr_abs_le 4 (by rw [abs_le]; omega)
  rw [abs_le] at ht
  exact tc32_toInt (by omega)

end Sys2Proof.Machine

namespace Sys2Proof.Proofs

open Sys2Proof.Machine

/-- Settles O27: it holds, coefficient by coefficient, by the signedness of its position in the block. -/
theorem coefficientsReadTheirTwoBytes : Obligations.CoefficientsReadTheirTwoBytes := fun _ =>
  ⟨coefAt_of_signed rfl, coefAt_of_signed rfl, coefAt_of_signed rfl, coefAt_of_unsigned rfl, coefAt_of_unsigned rfl,
    coefAt_of_unsigned rfl, coefAt_of_signed rfl, coefAt_of_signed rfl, coefAt_of_signed rfl, coefAt_of_signed rfl,
    coefAt_of_signed rfl⟩

end Sys2Proof.Proofs

/-! ## The invariants (R42) -/

namespace Sys2Proof.Machine

open Sys2Proof.Rule

theorem code_ne_zero (e : ErrCode) : e.code ≠ 0 := by cases e <;> decide

/-- The bit a refusal sets is the one its code names (R38, R39). -/
theorem errBit_getLsbD_code (e : ErrCode) : e.errBit.getLsbD (e.code.toNat - 1) = true := by cases e <;> decide

/-- A refusal keeps the invariant: it sets the bit that ECAUSE names. -/
theorem EngineInv.raise {s : State} (h : EngineInv s) (x : Access) (e : ErrCode) : EngineInv (s.raise x e) := by
  obtain ⟨htv, hpv, hcalv, -, -, hb5, ht⟩ := h
  refine ⟨htv, hpv, hcalv, fun _ => ?_, fun h0 => absurd h0 (code_ne_zero e), hb5, ht⟩
  rw [State.raise_err, State.raise_ecause, BitVec.getLsbD_or, errBit_getLsbD_code, Bool.or_true]

/-- The invariant does not read the answer. -/
theorem EngineInv.okWrite {s : State} (h : EngineInv s) : EngineInv s.okWrite := h

theorem EngineInv.clearErrors {s : State} (h : EngineInv s) : EngineInv s.clearErrors := by
  obtain ⟨htv, hpv, hcalv, -, -, hb5, ht⟩ := h
  exact ⟨htv, hpv, hcalv, fun h0 => absurd rfl h0, fun _ => rfl, hb5, ht⟩

/-- The block is locked only when every byte of it has been written (R90). -/
theorem EngineInv.lockCal {s : State} (h : EngineInv s) (hw : allCalWritten s = true) : EngineInv s.lockCal := by
  obtain ⟨-, hpv, -, hlog⟩ := h
  exact ⟨fun _ => rfl, hpv, fun _ => (allCalWritten_iff s).1 hw, hlog⟩

theorem EngineInv.putCal {s : State} (h : EngineInv s) (hc : s.calv = false) (i : Fin 22) (d : Byte) :
    EngineInv (s.putCal i d) := by
  obtain ⟨htv, hpv, -, hlog⟩ := h
  exact ⟨htv, hpv, fun h1 => absurd (hc.symm.trans h1) Bool.false_ne_true, hlog⟩

theorem EngineInv.dropPressure {s : State} (h : EngineInv s) : EngineInv s.dropPressure := by
  obtain ⟨htv, -, hrest⟩ := h
  exact ⟨htv, fun h1 => absurd h1 Bool.false_ne_true, hrest⟩

/-- A failed CTEMP drops both results. -/
theorem EngineInv.dropResults {s : State} (h : EngineInv s) : EngineInv s.dropPressure.dropTemperature := by
  obtain ⟨-, -, hrest⟩ := h
  exact ⟨fun h1 => absurd h1 Bool.false_ne_true, fun h1 => absurd h1 Bool.false_ne_true, hrest⟩

/-- A successful CTEMP drops the pressure and leaves B5 in its range and T its rounding (R110, R31). -/
theorem EngineInv.commitTemperature {s : State} (h : EngineInv s) (hc : s.calv = true) (hd : tempD s ≠ 0) :
    EngineInv (s.dropPressure.commitTemperature (tempB5 s) (tempT s)) := by
  obtain ⟨-, -, hcalv, hcause, hlog, -, -⟩ := h
  refine ⟨fun _ => hc, fun _ => rfl, hcalv, hcause, hlog, ?_, ?_⟩
  · rw [State.commitTemperature_b5, tc32_tempB5_toInt hd]
    exact abs_le.1 (tempB5_abs_le hd)
  · rw [State.commitTemperature_b5, State.commitTemperature_t, tc32_tempB5_toInt hd, tc32_tempT_toInt hd]

theorem EngineInv.commitPressure {s : State} (h : EngineInv s) (ht : s.tv = true) (pp : Int) (br : Bool) :
    EngineInv (s.commitPressure pp br) := by
  obtain ⟨htv, -, hrest⟩ := h
  exact ⟨htv, fun _ => ht, hrest⟩

theorem calv_of_ctempReady {s : State} (h : ctempReady s = true) : s.calv = true := by
  simp only [ctempReady, Bool.and_eq_true] at h
  exact h.1.1

theorem tv_of_cpresReady {s : State} (h : cpresReady s = true) : s.tv = true := by
  simp only [cpresReady, Bool.and_eq_true] at h
  exact h.1.1.1.2

theorem engineInv_reset : EngineInv State.reset := by decide

/-- Every effect of a step keeps the invariant. It reads neither the inputs, the answer, SB, SBW nor OSS, so an effect on
those alone keeps it as it stands. -/
theorem step_keeps_engineInv {s s' : State} (h : EngineInv s) (hstep : step s = .next s') : EngineInv s' := by
  have hu : ∀ es, EngineInv (s.withInputs es) := fun _ => h
  have hsample : ∀ es, EngineInv (s.withInputs es).consumeSample := fun _ => h
  cases step_effect hstep with
  | idle | resetReleased | readDelivered | ossWritten | sbWritten => exact h
  | resetApplied => exact engineInv_reset
  | refused => exact (hu _).raise _ _
  | @calWritten i d es _ hc => exact ((hu es).putCal hc i d).okWrite
  | locked _ _ hw => exact ((hu _).lockCal hw).okWrite
  | logCleared => exact (hu _).clearErrors.okWrite
  | tempDivZero => exact (hsample _).dropResults.raise _ _
  | tempCommitted _ hr hd =>
    have hc := calv_of_ctempReady hr
    exact ((hsample _).commitTemperature hc hd).okWrite
  | presDivZero | presOutOfRange => exact (hsample _).dropPressure.raise _ _
  | @presCommitted es _ hr =>
    have ht := tv_of_cpresReady hr
    exact ((hsample es).commitPressure ht (presPP s) (branchOf (presB7 s))).okWrite

/-- STATUS bit by bit (R37). -/
theorem statusByte_bits (s : State) :
    (statusByte s).getLsbD 0 = s.calv ∧ (statusByte s).getLsbD 1 = s.tv ∧ (statusByte s).getLsbD 2 = s.pv ∧
      (statusByte s).getLsbD 3 = s.br ∧ (statusByte s).getLsbD 4 = s.sbw.getLsbD 0 ∧
      (statusByte s).getLsbD 5 = s.sbw.getLsbD 1 ∧ (statusByte s).getLsbD 6 = s.sbw.getLsbD 2 ∧
      (statusByte s).getLsbD 7 = decide (s.err ≠ 0) := by
  simp only [statusByte, BitVec.getLsbD_append]
  simp [errorFlag, bne, beq_eq_decide]

end Sys2Proof.Machine

namespace Sys2Proof.Proofs

open Sys2Proof.Machine Sys2Proof.Rule

/-- Settles O50: it holds; at reset every flag is 0, the log is empty and B5 and T are 0. -/
theorem invariantHoldsAtReset : Obligations.InvariantHoldsAtReset := engineInv_reset

/-- Settles O51: it holds, effect by effect; the bounds of R110 carry CTEMP's case. -/
theorem stepKeepsTheInvariant : Obligations.StepKeepsTheInvariant := fun _ _ => step_keeps_engineInv

/-- Settles O52: it holds; (a), (b), (c) and (e) by the invariant over the run, (d) by the composition of STATUS, (f) by
the width of OSS. -/
theorem reachableStatesMeetR42 : Obligations.ReachableStatesMeetR42 := by
  intro n es s hrun
  obtain ⟨htv, hpv, hcalv, hcause, -⟩ : EngineInv s :=
    run_invariant EngineInv (fun _ _ => step_keeps_engineInv) n (State.reset.withInputs es) s
      engineInv_reset hrun
  obtain ⟨-, -, -, -, -, -, -, hef⟩ := statusByte_bits s
  exact ⟨htv, hpv, fun hc i => hcalv hc i i.isLt, by rw [hef, decide_eq_true_iff], hcause, Nat.le_of_lt_succ s.oss.isLt⟩

end Sys2Proof.Proofs

/-! ## Registers and flags (R20 to R37, R43) -/

namespace Sys2Proof.Machine

open Sys2Proof.Rule

/-- A refused write in the vocabulary of the statements (R163). -/
theorem raise_write_eq (s : State) (e : ErrCode) : s.raise .write e = refusedWrite s e.code.toNat := by
  cases e <;> rfl

/-- The registers that are bytes the host writes, and CALW. -/
def Reg.isByteStore : Reg → Bool
  | .oss | .calw _ | .cal _ | .sb _ => true
  | .cmd | .status | .err | .ecause | .b5 _ | .t _ | .p _ => false

theorem regAt_isByteStore : ∀ a : Addr,
    (a = 0x01 ∨ (0x05 ≤ a.toNat ∧ a.toNat ≤ 0x07) ∨ (0xAA ≤ a.toNat ∧ a.toNat ≤ 0xBF) ∨
      (0xF6 ≤ a.toNat ∧ a.toNat ≤ 0xF8)) → ∃ r, regAt a = some r ∧ r.isByteStore = true := by
  have hall : ∀ a : Addr,
      (a = 0x01 ∨ (0x05 ≤ a.toNat ∧ a.toNat ≤ 0x07) ∨ (0xAA ≤ a.toNat ∧ a.toNat ≤ 0xBF) ∨
        (0xF6 ≤ a.toNat ∧ a.toNat ≤ 0xF8)) → (regAt a).any Reg.isByteStore = true := by decide
  intro a ha
  exact (Option.any_eq_true _ _).1 (hall a ha)

/-- What such a register reads is a function of the fields no command writes. -/
theorem peekReg_congr {s s' : State} (hcal : s'.cal = s.cal) (hcalw : s'.calw = s.calw) (hsb : s'.sb = s.sb)
    (hoss : s'.oss = s.oss) {r : Reg} (hr : r.isByteStore = true) : peekReg r s' = peekReg r s := by
  cases r with
  | oss => simp only [peekReg, hoss]
  | calw k => simp only [peekReg, calwWord, hcalw]
  | cal i => simp only [peekReg, hcal]
  | sb j => simp only [peekReg, hsb]
  | _ => simp [Reg.isByteStore] at hr

end Sys2Proof.Machine

namespace Sys2Proof.Proofs

open Sys2Proof.Machine Sys2Proof.Rule

/-- Settles O42: it holds, by evaluating the reset state. -/
theorem resetStateIsTheListedOne : Obligations.ResetStateIsTheListedOne := by
  refine ⟨fun i => ⟨by simp, by simp⟩, rfl, fun j => ⟨by simp, by simp⟩, rfl, rfl, rfl, rfl, rfl, rfl, rfl, rfl, rfl,
    ?_, ?_⟩
  · decide
  · decide

/-- Settles O11: it holds, by the bits of `statusByte`; no case of a write stores to STATUS. -/
theorem statusReadShowsTheFlags : Obligations.StatusReadShowsTheFlags := by
  refine ⟨?_, by decide, ?_⟩
  · rintro s es ⟨hr, hin⟩
    exact ⟨statusByte s, step_transaction hr hin, statusByte_bits s⟩
  · rintro s d es ⟨hr, hin⟩
    rw [step_transaction hr hin]
    exact congrArg Host.Outcome.next (raise_write_eq (s.withInputs es) .access)

/-- Settles O25: it holds, since such an address reads only fields that no command writes. -/
theorem commandsStoreToNoByteRegister : Obligations.CommandsStoreToNoByteRegister := by
  intro i s s' a h ha
  obtain ⟨r, hra, hr⟩ := regAt_isByteStore a ha
  obtain ⟨hcal, hcalw, hsb, hoss, -, -⟩ := exec_keeps h
  simpa only [peek, hra] using peekReg_congr hcal hcalw hsb hoss hr

/-- Settles O48: it holds; each of the four clauses has one effect of a step that changes its registers. -/
theorem registersAreWrittenOnlyByTheirOwnTransaction : Obligations.RegistersAreWrittenOnlyByTheirOwnTransaction := by
  intro s s' h hnr
  cases step_effect h with
  | resetApplied hin => exact absurd hin (hnr _)
  | tempCommitted hin => simpa [okay] using fun _ => ⟨_, hin⟩
  | presCommitted hin => simpa [okay] using fun _ => ⟨_, hin⟩
  | @ossWritten d es hin hd =>
    refine ⟨by simp, by simp, fun _ => ⟨d, es, hin, ?_⟩, by simp⟩
    simp
    omega
  | @sbWritten k d es hin =>
    refine ⟨by simp, by simp, by simp, fun j hj => ?_⟩
    by_cases hjk : j = k
    · subst hjk
      exact ⟨es, by simpa [Reg.addr] using hin⟩
    · exact absurd (putSb_other (s.withInputs es) k j d hjk) hj
  | _ => simp

/-- Settles O49: it holds; TV and PV change only in the effects of CTEMP and CPRES, each of which says its answer. -/
theorem validFlagsFollowTheResults : Obligations.ValidFlagsFollowTheResults := by
  intro s s' h hnr
  cases step_effect h with
  | resetApplied hin => exact absurd hin (hnr _)
  | tempDivZero hin => simp [hin, refusalAnswer, ErrCode.code]
  | tempCommitted hin => simp [hin, okay]
  | presDivZero hin | presOutOfRange hin => simp +contextual [hin, refusalAnswer, ErrCode.code]
  | presCommitted hin => simp +contextual [hin, okay]
  | _ => simp +contextual

end Sys2Proof.Proofs

/-! ## What cannot influence what (R26, R38)

`Follows` is one direction of a simulation, between two outcomes; `CommandBlind` and `PortBlind` say of a relation between
states that no command, and no input, can tell its two sides apart. The one case split over `exec` and over `step` serves
every such relation. -/

namespace Sys2Proof.Machine

open Sys2Proof.Rule

variable {R : State → State → Prop} {s r : State}

/-- Where `o` ends in a state, `o'` ends in one related to it. -/
def Follows (R : State → State → Prop) (o o' : Host.Outcome State Fault Refusal) : Prop :=
  ∀ ⦃s'⦄, o = .next s' → ∃ r', o' = .next r' ∧ R s' r'

theorem Follows.next (h : R s r) : Follows R (.next s) (.next r) := by
  rintro s' hs
  exact ⟨r, rfl, Host.Outcome.next.inj hs ▸ h⟩

theorem Follows.ite {p q : Prop} [Decidable p] [Decidable q] {a a' b b' : Host.Outcome State Fault Refusal}
    (hpq : p ↔ q) (ha : p → Follows R a a') (hb : Follows R b b') :
    Follows R (if p then a else b) (if q then a' else b') := by
  by_cases hp : p
  · rw [if_pos hp, if_pos (hpq.1 hp)]
    exact ha hp
  · rw [if_neg hp, if_neg (mt hpq.2 hp)]
    exact hb

/-- No command can tell the two sides of `R` apart: the flags the commands test and the values they compute are the same,
and every update a command makes keeps `R`. CPRES reads B5 only while `TV = 1`. -/
structure CommandBlind (R : State → State → Prop) : Prop where
  calv : ∀ {s r}, R s r → r.calv = s.calv
  calw : ∀ {s r}, R s r → r.calw = s.calw
  tv : ∀ {s r}, R s r → r.tv = s.tv
  sbw : ∀ {s r}, R s r → r.sbw = s.sbw
  tempD : ∀ {s r}, R s r → tempD r = tempD s
  tempB5 : ∀ {s r}, R s r → tempB5 r = tempB5 s
  presB4 : ∀ {s r}, R s r → s.tv = true → presB4 r = presB4 s
  presB7 : ∀ {s r}, R s r → s.tv = true → presB7 r = presB7 s
  answered : ∀ {s r} a, R s r → R (s.answered a) (r.answered a)
  raise : ∀ {s r} x e, R s r → R (s.raise x e) (r.raise x e)
  clearErrors : ∀ {s r}, R s r → R s.clearErrors r.clearErrors
  lockCal : ∀ {s r}, R s r → R s.lockCal r.lockCal
  consumeSample : ∀ {s r}, R s r → R s.consumeSample r.consumeSample
  dropPressure : ∀ {s r}, R s r → R s.dropPressure r.dropPressure
  dropTemperature : ∀ {s r}, R s r → R s.dropTemperature r.dropTemperature
  commitTemperature : ∀ {s r} b t, R s r → R (s.commitTemperature b t) (r.commitTemperature b t)
  commitPressure : ∀ {s r} pp br, R s r → R (s.commitPressure pp br) (r.commitPressure pp br)

/-- No input can tell the two sides of `R` apart, but for the bytes that reads deliver. -/
structure PortBlind (R : State → State → Prop) : Prop extends CommandBlind R where
  inputs : ∀ {s r}, R s r → r.inputs = s.inputs
  resetApplied : ∀ {s r}, R s r → r.resetApplied = s.resetApplied
  putOss : ∀ {s r} m, R s r → R (s.putOss m) (r.putOss m)
  putCal : ∀ {s r} i d, R s r → R (s.putCal i d) (r.putCal i d)
  putSb : ∀ {s r} j d, R s r → R (s.putSb j d) (r.putSb j d)
  withInputs : ∀ {s r} es, R s r → R (s.withInputs es) (r.withInputs es)
  applyReset : ∀ {s r}, R s r → R s.applyReset r.applyReset
  releaseReset : ∀ {s r}, R s r → R s.releaseReset r.releaseReset

namespace CommandBlind

variable (hR : CommandBlind R) (h : R s r)
include hR h

theorem okWrite : R s.okWrite r.okWrite := hR.answered _ h

theorem ctempReady : ctempReady r = ctempReady s := by
  simp only [Machine.ctempReady, hR.calv h, hR.sbw h]

theorem cpresReady : cpresReady r = cpresReady s := by
  simp only [Machine.cpresReady, hR.calv h, hR.tv h, hR.sbw h]

theorem execLock_follows : Follows R (execLock s) (execLock r) := by
  refine .ite (by rw [hR.calv h]) (fun _ => .next (hR.raise _ _ h)) (.ite ?_ (fun _ => .next ?_) (.next (hR.raise _ _ h)))
  · rw [allCalWritten, allCalWritten, hR.calw h]
  · exact hR.okWrite (hR.lockCal h)

theorem execCtemp_follows : Follows R (execCtemp s) (execCtemp r) := by
  have hsample := hR.dropPressure (hR.consumeSample h)
  refine .ite (by rw [hR.ctempReady h]) (fun _ => .ite (by rw [hR.tempD h]) (fun _ => .next ?_) (.next ?_))
    (.next (hR.raise _ _ h))
  · exact hR.raise _ _ (hR.dropTemperature hsample)
  · rw [tempT, tempT, hR.tempB5 h]
    exact hR.okWrite (hR.commitTemperature _ _ hsample)

theorem execCpres_follows : Follows R (execCpres s) (execCpres r) := by
  have hdrop := hR.dropPressure (hR.consumeSample h)
  refine .ite (by rw [hR.cpresReady h]) (fun hr => ?_) (.next (hR.raise _ _ h))
  have hb4 := hR.presB4 h (tv_of_cpresReady hr)
  have hb7 := hR.presB7 h (tv_of_cpresReady hr)
  have hpp : presPP r = presPP s := by rw [presPP, presPP, presP, presP, hb4, hb7]
  refine .ite (by rw [hb4]) (fun _ => .next ?_) (.ite (by rw [hpp]) (fun _ => .next ?_) (.next ?_))
  · exact hR.raise _ _ hdrop
  · rw [hpp, hb7]
    exact hR.okWrite (hR.commitPressure _ _ (hR.consumeSample h))
  · exact hR.raise _ _ hdrop

theorem exec_follows (i : Instr) : Follows R (exec i s) (exec i r) := by
  cases i with
  | lock => exact hR.execLock_follows h
  | clrerr => exact .next (hR.okWrite (hR.clearErrors h))
  | ctemp => exact hR.execCtemp_follows h
  | cpres => exact hR.execCpres_follows h

end CommandBlind

namespace PortBlind

variable (hR : PortBlind R) (h : R s r)
include hR h

theorem memRead {a : Addr} (hpeek : peek a r = peek a s) : R (memRead a s) (memRead a r) := by
  rw [Machine.memRead, Machine.memRead, hpeek]
  cases peek a s with
  | ok d => exact hR.answered _ h
  | error e => exact hR.raise _ _ h

theorem writeCmd_follows (d : Byte) : Follows R (writeCmd d s) (writeCmd d r) := by
  unfold writeCmd
  cases decode d with
  | ok i => exact hR.exec_follows h i
  | error e => exact .next (hR.raise _ _ h)

theorem writeOss (d : Byte) : R (writeOss d s) (writeOss d r) := by
  unfold Machine.writeOss
  split
  · exact hR.okWrite (hR.putOss _ h)
  · exact hR.raise _ _ h

theorem writeCal (i : Fin 22) (d : Byte) : R (writeCal i d s) (writeCal i d r) := by
  rw [Machine.writeCal, Machine.writeCal, hR.calv h]
  split
  · exact hR.raise _ _ h
  · exact hR.okWrite (hR.putCal i d h)

theorem memWrite_follows (a : Addr) (d : Byte) : Follows R (memWrite a d s) (memWrite a d r) := by
  unfold memWrite
  split
  · exact hR.writeCmd_follows h d
  · exact .next (hR.writeOss h d)
  · exact .next (hR.writeCal h _ d)
  · exact .next (hR.okWrite (hR.putSb _ d h))
  all_goals exact .next (hR.raise _ _ h)

/-- A step on one side is followed by the step on the other, when a read at the head of the inputs delivers the same. -/
theorem step_follows (hread : ∀ a es, s.inputs = .transaction (.read a) :: es → peek a r = peek a s) :
    Follows R (step s) (step r) := by
  cases hin : s.inputs with
  | nil =>
    rw [step_idle hin, step_idle ((hR.inputs h).trans hin)]
    exact .next h
  | cons e es =>
    have hw := hR.withInputs es h
    rw [step_event hin, step_event ((hR.inputs h).trans hin)]
    cases e with
    | resetApply => exact .next (hR.applyReset hw)
    | resetRelease => exact .next (hR.releaseReset hw)
    | transaction t =>
      refine .ite (by rw [hR.resetApplied hw]) (fun _ _ hs => nomatch hs) ?_
      cases t with
      | read a => exact .next (hR.memRead hw (hread a es hin))
      | write a d => exact hR.memWrite_follows hw a d

end PortBlind

/-- Package of the induction over two runs: what relates the starts and every step follows relates the ends. -/
theorem run_follows (hstep : ∀ s r, R s r → Follows R (step s) (step r)) :
    ∀ n s r, R s r → Follows R (run n s) (run n r) := by
  intro n
  induction n with
  | zero => exact fun s r h => .next h
  | succ n ih =>
    intro s r h s' hrun
    obtain ⟨s1, hs1, hs'⟩ := run_succ_cases hrun
    obtain ⟨r1, hr1, h1⟩ := hstep s r h hs1
    rw [run, run_succ hr1]
    exact ih s1 r1 h1 hs'

/-- No input reads the error log but the reads of STATUS, ERR and ECAUSE: an update of the one state is the same update
of the other. -/
theorem sameButLog_portBlind : PortBlind SameButLog where
  calv := congrArg State.calv
  calw := congrArg State.calw
  tv := congrArg State.tv
  sbw := congrArg State.sbw
  tempD := congrArg Machine.tempD
  tempB5 := congrArg Machine.tempB5
  presB4 h _ := (congrArg Machine.presB4 h).trans rfl
  presB7 h _ := (congrArg Machine.presB7 h).trans rfl
  inputs := congrArg State.inputs
  resetApplied := congrArg State.resetApplied
  answered a := congrArg (State.answered · a)
  raise x e := congrArg (State.raise · x e)
  clearErrors := congrArg State.clearErrors
  lockCal := congrArg State.lockCal
  consumeSample := congrArg State.consumeSample
  dropPressure := congrArg State.dropPressure
  dropTemperature := congrArg State.dropTemperature
  commitTemperature b t := congrArg (State.commitTemperature · b t)
  commitPressure pp br := congrArg (State.commitPressure · pp br)
  putOss m := congrArg (State.putOss · m)
  putCal i d := congrArg (State.putCal · i d)
  putSb j d := congrArg (State.putSb · j d)
  withInputs es := congrArg (State.withInputs · es)
  applyReset := congrArg State.applyReset
  releaseReset := congrArg State.releaseReset

/-- A read of any other address than those of STATUS, ERR and ECAUSE does not see the log. -/
theorem peek_eq_of_sameButLog (h : SameButLog s r) {a : Addr}
    (ha : readsLog (.transaction (.read a)) = false) : peek a r = peek a s := by
  unfold peek
  cases hreg : regAt a with
  | none => rfl
  | some q =>
    obtain rfl := addr_of_regAt a q hreg
    cases q with
    | status | err | ecause => simp [readsLog, Reg.addr] at ha
    | _ => exact (congrArg (peekReg _) h).trans rfl

/-- The relation of R38's run: the two states differ at most in the log, and no pending input reads it. -/
def LogUnread (s r : State) : Prop := SameButLog s r ∧ ∀ e ∈ s.inputs, readsLog e = false

theorem step_follows_logUnread (h : LogUnread s r) : Follows LogUnread (step s) (step r) := by
  intro s' hs
  obtain ⟨hlog, hunread⟩ := h
  have hread : ∀ a es, s.inputs = .transaction (.read a) :: es → peek a r = peek a s := fun a es hin =>
    peek_eq_of_sameButLog hlog (hunread _ (by simp [hin]))
  obtain ⟨r', hr, h'⟩ := sameButLog_portBlind.step_follows hlog hread hs
  exact ⟨r', hr, h', fun e he => hunread e (List.mem_of_mem_tail (step_inputs hs ▸ he))⟩

/-- Other bytes for MB leave every other coefficient's word as it is (R25). -/
theorem coefWord_withMB (x y : Byte) (s : State) {k : Fin 11} (hk : k ≠ 8) :
    coefWord (withMB x y s) k = coefWord s k := by
  have hk8 : k.val ≠ 8 := fun hv => hk (Fin.ext hv)
  have h16 : 16 ≠ 2 * k.val ∧ 16 ≠ 2 * k.val + 1 := by omega
  have h17 : 17 ≠ 2 * k.val ∧ 17 ≠ 2 * k.val + 1 := by omega
  simp [coefWord, withMB, Vector.getElem_set_ne, h16, h17]

theorem coef_withMB (x y : Byte) (s : State) {c : CoefName} (hc : c.index ≠ 8) :
    coef (withMB x y s) c = coef s c := by
  rw [coef, coef, coefAt, coefAt, coefWord_withMB x y s hc]

theorem tempX1_withMB (x y : Byte) (s : State) : tempX1 (withMB x y s) = tempX1 s := by
  have hac5 := coef_withMB x y s (c := .AC5) (by decide)
  have hac6 := coef_withMB x y s (c := .AC6) (by decide)
  simp only [tempX1, tempT1, tempT0, hac5, hac6]
  rfl

theorem tempD_withMB (x y : Byte) (s : State) : tempD (withMB x y s) = tempD s := by
  rw [tempD, tempD, tempX1_withMB, coef_withMB x y s (by decide)]

theorem tempB5_withMB (x y : Byte) (s : State) : tempB5 (withMB x y s) = tempB5 s := by
  rw [tempB5, tempB5, tempX2, tempX2, tempN, tempN, tempX1_withMB, tempD_withMB, coef_withMB x y s (by decide)]

theorem presS1_withMB (x y : Byte) (s : State) : presS1 (withMB x y s) = presS1 s := rfl

theorem presB6_withMB (x y : Byte) (s : State) : presB6 (withMB x y s) = presB6 s := rfl

theorem presB4_withMB (x y : Byte) (s : State) : presB4 (withMB x y s) = presB4 s := by
  have hac3 := coef_withMB x y s (c := .AC3) (by decide)
  have hac4 := coef_withMB x y s (c := .AC4) (by decide)
  have hb1 := coef_withMB x y s (c := .B1) (by decide)
  simp only [presB4, presE1, presE0, presX3b, presC2, presX1b, presX2b, presC0, presC1, hac3, hac4, hb1, presS1_withMB,
    presB6_withMB]

theorem presB3_withMB (x y : Byte) (s : State) : presB3 (withMB x y s) = presB3 s := by
  have hac1 := coef_withMB x y s (c := .AC1) (by decide)
  have hac2 := coef_withMB x y s (c := .AC2) (by decide)
  have hb2 := coef_withMB x y s (c := .B2) (by decide)
  simp only [presB3, presB1, presB0, presX3a, presX1a, presX2a, presA0, presA1, hac1, hac2, hb2, presS1_withMB,
    presB6_withMB]
  rfl

theorem presB7_withMB (x y : Byte) (s : State) : presB7 (withMB x y s) = presB7 s := by
  rw [presB7, presB7, presF0, presF0, presB3_withMB]
  rfl

/-- The relation of R26: `r` is `s` with other bytes for MB. -/
def OtherMB (x y : Byte) (s r : State) : Prop := r = withMB x y s

/-- No line of either chain names MB, and no command writes CAL (R26). -/
theorem otherMB_commandBlind (x y : Byte) : CommandBlind (OtherMB x y) where
  calv := congrArg State.calv
  calw := congrArg State.calw
  tv := congrArg State.tv
  sbw := congrArg State.sbw
  tempD h := (congrArg Machine.tempD h).trans (tempD_withMB x y _)
  tempB5 h := (congrArg Machine.tempB5 h).trans (tempB5_withMB x y _)
  presB4 h _ := (congrArg Machine.presB4 h).trans (presB4_withMB x y _)
  presB7 h _ := (congrArg Machine.presB7 h).trans (presB7_withMB x y _)
  answered a := congrArg (State.answered · a)
  raise x e := congrArg (State.raise · x e)
  clearErrors := congrArg State.clearErrors
  lockCal := congrArg State.lockCal
  consumeSample := congrArg State.consumeSample
  dropPressure := congrArg State.dropPressure
  dropTemperature := congrArg State.dropTemperature
  commitTemperature b t := congrArg (State.commitTemperature · b t)
  commitPressure pp br := congrArg (State.commitPressure · pp br)

end Sys2Proof.Machine

namespace Sys2Proof.Proofs

open Sys2Proof.Machine Sys2Proof.Rule

/-- Settles O55: it holds; a run on the one state is followed step by step on the other. -/
theorem errorLogGatesNothing : Obligations.ErrorLogGatesNothing := by
  intro n s r s' hlog hunread hrun
  obtain ⟨r', hr, h', -⟩ := run_follows (fun _ _ => step_follows_logUnread) n s r ⟨hlog, hunread⟩ hrun
  exact ⟨r', hr, h'⟩

/-- Settles O53: it holds; a command always answers, and on the state with other MB bytes it follows itself. -/
theorem noCommandReadsMB : Obligations.NoCommandReadsMB := by
  intro i s x y
  obtain ⟨s', hs⟩ := exec_next i s
  obtain ⟨r', hr, h'⟩ := (otherMB_commandBlind x y).exec_follows (s := s) rfl i hs
  rw [hr, hs, h']
  rfl

end Sys2Proof.Proofs

/-! # Scope: the register space (`20_memory.md`)

First the rules a read and a write are reasoned with: what one at the head of the inputs does, and what each register's
address delivers and takes. The statements follow in the order of R52 to R63, each a short use of them. -/

namespace Sys2Proof.Machine

open Sys2Proof.Rule

variable {s : State} {a : Addr} {d : Byte} {es : List HostEvent}

/-- A pending read is the next step (R52). -/
theorem step_read (h : Pending s (.read a) es) : step s = .next (memRead a (s.withInputs es)) := by
  obtain ⟨hr, hin⟩ := h
  exact step_transaction hr hin

/-- A pending write is the next step (R53). -/
theorem step_write (h : Pending s (.write a d) es) : step s = memWrite a d (s.withInputs es) := by
  obtain ⟨hr, hin⟩ := h
  exact step_transaction hr hin

/-- A refused read in the vocabulary of the statements (R163). -/
theorem raise_read_eq (s : State) (e : ErrCode) : s.raise .read e = refusedRead s e.code.toNat := by
  cases e <;> rfl

@[simp] theorem peek_addr (r : Reg) (s : State) : peek r.addr s = peekReg r s := by
  simp only [peek, regAt_addr]

@[simp] theorem peekReg_withInputs (r : Reg) (s : State) (es : List HostEvent) :
    peekReg r (s.withInputs es) = peekReg r s := by cases r <;> rfl

@[simp] theorem peekReg_okWrite (r : Reg) (s : State) : peekReg r s.okWrite = peekReg r s := by cases r <;> rfl

/-- What an address reads depends only on the register there. -/
theorem peek_congr {s' : State} (h : ∀ r : Reg, r.addr = a → peekReg r s' = peekReg r s) : peek a s' = peek a s := by
  unfold peek
  cases ha : regAt a with
  | none => rfl
  | some r => exact h r (addr_of_regAt a r ha)

@[simp] theorem peek_withInputs (a : Addr) (s : State) (es : List HostEvent) : peek a (s.withInputs es) = peek a s :=
  peek_congr fun r _ => peekReg_withInputs r s es

/-- A pending read that is not refused delivers its byte, as the number `v` (R52). -/
theorem step_read_delivered {v : Nat} (h : Pending s (.read a) es) (hp : peek a s = .ok d) (hv : d.toNat = v) :
    step s = .next (delivered s es v) := by
  subst hv
  rw [step_read h, memRead, peek_withInputs, hp, delivered, BitVec.ofNat_toNat, BitVec.setWidth_eq]
  rfl

/-- A pending read that is refused leaves the record of R163. -/
theorem step_read_refused {e : ErrCode} (h : Pending s (.read a) es) (hp : peek a s = .error e) :
    step s = .next (refusedRead (s.withInputs es) e.code.toNat) := by
  rw [step_read h, memRead, peek_withInputs, hp, ← raise_read_eq]

/-- A pending read of a guarded byte is answered or refused by its flag (R55). -/
theorem step_read_guarded {valid : Bool} {v : Nat} (h : Pending s (.read a) es) (hp : peek a s = guardedByte valid d)
    (hv : d.toNat = v) :
    step s = .next (if valid = true then delivered s es v else refusedRead (s.withInputs es) 6) := by
  cases valid with
  | true => exact step_read_delivered h hp hv
  | false => exact step_read_refused h hp

/-- Byte `j` of a big-endian register, as a number (R55, R61). -/
theorem byteBE_toNat (n : Nat) (v : BitVec (8 * n)) (j : Nat) :
    (byteBE n v j).toNat = v.toNat / 2 ^ (8 * (n - 1 - j)) % 256 := by
  rw [byteBE, BitVec.extractLsb'_toNat, Nat.shiftRight_eq_div_pow]

/-- The four bytes of a word, joined big-endian and read as `sext_32`, are the word (R61, R78). -/
theorem signedValue32_bytes (w : Word) :
    signedValue32 [byteBE 4 w 0, byteBE 4 w 1, byteBE 4 w 2, byteBE 4 w 3] = w.toInt := by
  have hjoin : bigEndianValue [byteBE 4 w 0, byteBE 4 w 1, byteBE 4 w 2, byteBE 4 w 3] = w.toNat := by
    have := w.isLt
    simp only [bigEndianValue, List.foldl_cons, List.foldl_nil, byteBE_toNat]
    omega
  rw [signedValue32, hjoin, BitVec.ofNat_toNat, BitVec.setWidth_eq]

/-- An unmapped address or CMD reads nothing (R60). -/
theorem peek_refused (h : regAt a = none ∨ regAt a = some .cmd) : peek a s = .error .access := by
  obtain h | h := h <;> simp only [peek, h, peekReg]

/-- The registers without W in R51. -/
def Reg.isReadOnly : Reg → Bool
  | .status | .err | .ecause | .calw _ | .b5 _ | .t _ | .p _ => true
  | .cmd | .oss | .cal _ | .sb _ => false

/-- A write to an unmapped address or to a register without W (R60). -/
theorem memWrite_refused (h : (regAt a).all Reg.isReadOnly = true) :
    memWrite a d s = .next (s.raise .write .access) := by
  unfold memWrite
  cases ha : regAt a with
  | none => rfl
  | some r =>
    cases r with
    | cmd | oss | cal | sb => simp [ha, Reg.isReadOnly] at h
    | _ => rfl

@[simp] theorem memWrite_oss (d : Byte) (s : State) : memWrite 0x01 d s = .next (writeOss d s) := rfl

@[simp] theorem memWrite_cal (i : Fin 22) (d : Byte) (s : State) :
    memWrite (Reg.cal i).addr d s = .next (writeCal i d s) := by simp only [memWrite, regAt_addr]

@[simp] theorem memWrite_sb (j : Fin 3) (d : Byte) (s : State) :
    memWrite (Reg.sb j).addr d s = .next (writeSb j d s) := by simp only [memWrite, regAt_addr]

/-! ### What a write leaves unchanged (R53) -/

theorem peekReg_raise {q : Reg} (x : Access) (e : ErrCode) (hstatus : q ≠ .status) (herr : q ≠ .err)
    (hcause : q ≠ .ecause) : peekReg q (s.raise x e) = peekReg q s := by
  cases q with
  | status => exact absurd rfl hstatus
  | err => exact absurd rfl herr
  | ecause => exact absurd rfl hcause
  | _ => rfl

theorem peekReg_putOss {q : Reg} (m : BitVec 2) (hq : q ≠ .oss) : peekReg q (s.putOss m) = peekReg q s := by
  cases q with
  | oss => exact absurd rfl hq
  | _ => rfl

theorem peekReg_putCal {q : Reg} {i : Fin 22} (d : Byte) (hq : q ≠ .cal i) (hcalw : ∀ k, q ≠ .calw k) :
    peekReg q (s.putCal i d) = peekReg q s := by
  cases q with
  | cal k => exact congrArg Except.ok (putCal_other s i k d fun hk => hq (hk ▸ rfl))
  | calw k => exact absurd rfl (hcalw k)
  | _ => rfl

theorem peekReg_putSb {q : Reg} {j : Fin 3} (d : Byte) (hq : q ≠ .sb j) (hstatus : q ≠ .status) :
    peekReg q (s.putSb j d) = peekReg q s := by
  cases q with
  | sb k => exact congrArg Except.ok (putSb_other s j k d fun hk => hq (hk ▸ rfl))
  | status => exact absurd rfl hstatus
  | _ => rfl

/-- The address range of CAL (R51). -/
theorem cal_addr_range (i : Fin 22) : 0xAA ≤ (Reg.cal i).addr.toNat ∧ (Reg.cal i).addr.toNat ≤ 0xBF := by
  revert i; decide

/-- The addresses of CALW (R51). -/
theorem calw_addr (k : Fin 3) : (Reg.calw k).addr = 0x05 ∨ (Reg.calw k).addr = 0x06 ∨ (Reg.calw k).addr = 0x07 := by
  revert k; decide

/-- The frame of a write outside CMD: a register whose address is not the one written, that is neither STATUS nor of the
error log, and no byte of CALW after a write to CAL, reads as before. -/
theorem peekReg_memWrite {s' : State} {q : Reg} (h : memWrite a d s = .next s') (ha : a ≠ 0x00) (hq : q.addr ≠ a)
    (hstatus : q ≠ .status) (herr : q ≠ .err) (hcause : q ≠ .ecause)
    (hcalw : ∀ i k, a = (Reg.cal i).addr → q ≠ .calw k) : peekReg q s' = peekReg q s := by
  obtain ⟨e, -, rfl⟩ | ⟨i, rfl, -⟩ | ⟨rfl, -, rfl⟩ | ⟨i, hi, -, rfl⟩ | ⟨j, hj, rfl⟩ := memWrite_cases h
  · exact peekReg_raise _ _ hstatus herr hcause
  · exact absurd rfl ha
  · rw [peekReg_okWrite, peekReg_putOss]
    rintro rfl
    exact hq rfl
  · obtain rfl := addr_of_regAt _ _ hi
    rw [peekReg_okWrite, peekReg_putCal d (fun hqi => hq (hqi ▸ rfl)) fun k => hcalw i k rfl]
  · obtain rfl := addr_of_regAt _ _ hj
    rw [peekReg_okWrite, peekReg_putSb d (fun hqj => hq (hqj ▸ rfl)) hstatus]

/-! ### A write done twice (R63) -/

/-- A write outside CMD as a function of the state. -/
def byteWrite (a : Addr) (d : Byte) (s : State) : State :=
  match regAt a with
  | some .oss => writeOss d s
  | some (.cal i) => writeCal i d s
  | some (.sb j) => writeSb j d s
  | _ => s.raise .write .access

theorem memWrite_eq_byteWrite (ha : a ≠ 0x00) : memWrite a d s = .next (byteWrite a d s) := by
  unfold memWrite byteWrite
  cases hreg : regAt a with
  | none => rfl
  | some r =>
    cases r with
    | cmd => exact absurd (addr_of_regAt a _ hreg).symm ha
    | _ => rfl

theorem raise_raise (s : State) (x : Access) (e : ErrCode) : (s.raise x e).raise x e = s.raise x e := by
  simp only [State.raise, BitVec.or_assoc, BitVec.or_self]

theorem putCal_putCal (s : State) (i : Fin 22) (d : Byte) : (s.putCal i d).putCal i d = s.putCal i d := by
  simp only [State.putCal, Vector.set_set, BitVec.or_assoc, BitVec.or_self]

theorem putSb_putSb (s : State) (j : Fin 3) (d : Byte) : (s.putSb j d).putSb j d = s.putSb j d := by
  simp only [State.putSb, Vector.set_set, BitVec.or_assoc, BitVec.or_self]

theorem writeOss_writeOss (d : Byte) (s : State) : writeOss d (writeOss d s) = writeOss d s := by
  unfold writeOss
  split
  · rfl
  · exact raise_raise s _ _

theorem writeCal_writeCal (i : Fin 22) (d : Byte) (s : State) : writeCal i d (writeCal i d s) = writeCal i d s := by
  cases hc : s.calv with
  | true => simp only [writeCal, hc, if_true, State.raise_calv, raise_raise]
  | false =>
    simp only [writeCal, hc, Bool.false_eq_true, if_false, State.okWrite_calv, State.putCal_calv]
    have hput := congrArg State.okWrite (putCal_putCal s i d)
    exact hput

theorem writeSb_writeSb (j : Fin 3) (d : Byte) (s : State) : writeSb j d (writeSb j d s) = writeSb j d s := by
  have hput := congrArg State.okWrite (putSb_putSb s j d)
  exact hput

theorem byteWrite_byteWrite (a : Addr) (d : Byte) (s : State) : byteWrite a d (byteWrite a d s) = byteWrite a d s := by
  unfold byteWrite
  rcases regAt a with _ | r
  · exact raise_raise s _ _
  · cases r with
    | oss => exact writeOss_writeOss d s
    | cal i => exact writeCal_writeCal i d s
    | sb j => exact writeSb_writeSb j d s
    | _ => exact raise_raise s _ _

/-- A write does not look at the inputs that follow it. -/
theorem byteWrite_withInputs (a : Addr) (d : Byte) (s : State) (es : List HostEvent) :
    byteWrite a d (s.withInputs es) = (byteWrite a d s).withInputs es := by
  unfold byteWrite
  split
  · unfold writeOss
    split <;> rfl
  · unfold writeCal
    rw [State.withInputs_calv]
    split <;> rfl
  · rfl
  · rfl

theorem byteWrite_resetApplied (ha : a ≠ 0x00) : (byteWrite a d s).resetApplied = s.resetApplied := by
  have hw : memWrite a d s = .next (byteWrite a d s) := memWrite_eq_byteWrite ha
  obtain ⟨e, -, h⟩ | ⟨i, rfl, -⟩ | ⟨-, -, h⟩ | ⟨i, -, -, h⟩ | ⟨j, -, h⟩ := memWrite_cases hw
  · rw [h, State.raise_resetApplied]
  · exact absurd rfl ha
  · rw [h, State.okWrite_resetApplied, State.putOss_resetApplied]
  · rw [h, State.okWrite_resetApplied, State.putCal_resetApplied]
  · rw [h, State.okWrite_resetApplied, State.putSb_resetApplied]

/-- A step whose input is a write outside CMD. -/
theorem step_byteWrite (hr : s.resetApplied = false) (ha : a ≠ 0x00) :
    step (s.withInputs (.transaction (.write a d) :: es)) = .next ((byteWrite a d s).withInputs es) := by
  have h : Pending (s.withInputs (.transaction (.write a d) :: es)) (.write a d) es := ⟨hr, rfl⟩
  rw [step_write h, memWrite_eq_byteWrite ha, byteWrite_withInputs, byteWrite_withInputs]
  rfl

/-! ### A command done twice (R63) -/

theorem execLock_refused (hc : s.calv = true) : execLock s = .next (s.raise .write .locked) := if_pos hc

theorem execCtemp_refused (hr : ctempReady s = false) : execCtemp s = .next (s.raise .write .seq) :=
  if_neg (by simp [hr])

theorem execCpres_refused (hr : cpresReady s = false) : execCpres s = .next (s.raise .write .seq) :=
  if_neg (by simp [hr])

theorem ctempReady_of_sbw_zero (h : s.sbw = 0) : ctempReady s = false := by simp [ctempReady, h]

theorem cpresReady_of_sbw_zero (h : s.sbw = 0) : cpresReady s = false := by simp [cpresReady, h]

theorem raise_write_answer_ne_okay (s : State) (e : ErrCode) : (s.raise .write e).answer ≠ some (.write 0) := by
  simpa [refusalAnswer] using code_ne_zero e

end Sys2Proof.Machine

namespace Sys2Proof.Proofs

open Sys2Proof.Machine Sys2Proof.Rule

/-- Settles O4: it holds, by the port's rule for CMD. -/
theorem stepRunsTheDecodedCommand : Obligations.StepRunsTheDecodedCommand := by
  intro s d i es hr hin hd
  have hcmd : memWrite 0x00 d (s.withInputs es) = writeCmd d (s.withInputs es) := rfl
  rw [step_write ⟨hr, hin⟩, hcmd, writeCmd, hd]
  rfl

/-- Settles O9: it holds; the address alone says that no register takes the access. -/
theorem accessRefusedByAddress : Obligations.AccessRefusedByAddress := by
  have hread : ∀ a : Addr,
      (a.toNat = 0x00 ∨ (0x08 ≤ a.toNat ∧ a.toNat ≤ 0x0F) ∨ (0x1C ≤ a.toNat ∧ a.toNat ≤ 0xA9) ∨
        (0xC0 ≤ a.toNat ∧ a.toNat ≤ 0xF5) ∨ 0xF9 ≤ a.toNat) → regAt a = none ∨ regAt a = some .cmd := by decide
  have hwrite : ∀ a : Addr,
      ((0x02 ≤ a.toNat ∧ a.toNat ≤ 0xA9) ∨ (0xC0 ≤ a.toNat ∧ a.toNat ≤ 0xF5) ∨ 0xF9 ≤ a.toNat) →
        (regAt a).all Reg.isReadOnly = true := by decide
  intro s a d es
  refine ⟨fun h ha => step_read_refused h (peek_refused (hread a ha)), fun h ha => ?_⟩
  rw [step_write h, memWrite_refused (hwrite a ha), raise_write_eq]
  rfl

/-- Settles O10: it holds, register by register; the bytes of CALW by `byteBE_toNat`. -/
theorem unguardedReadsDeliverTheirRegister : Obligations.UnguardedReadsDeliverTheirRegister := by
  intro s es
  have hbyte (k : Nat) : (byteBE 3 (calwWord s) k).toNat = s.calw.toNat / 2 ^ (8 * (3 - 1 - k)) % 256 := by
    rw [byteBE_toNat, calwWord, BitVec.toNat_setWidth_of_le (by decide)]
  have hhigh : s.calw.toNat / 65536 < 256 := by have := s.calw.isLt; omega
  have hlow : s.calw.toNat / 2 ^ 0 = s.calw.toNat := Nat.div_one _
  refine ⟨fun h => ?_, fun h => ?_, fun h => ?_, fun h => ?_, fun h => ?_, fun h => ?_, fun i h => ?_, fun j h => ?_⟩
  · exact step_read_delivered h (peek_addr .oss s) (BitVec.toNat_setWidth_of_le (by decide))
  · exact step_read_delivered h (peek_addr .err s) rfl
  · exact step_read_delivered h (peek_addr .ecause s) (BitVec.toNat_setWidth_of_le (by decide))
  · exact step_read_delivered h (peek_addr (.calw 0) s) ((hbyte 0).trans (Nat.mod_eq_of_lt hhigh))
  · exact step_read_delivered h (peek_addr (.calw 1) s) (hbyte 1)
  · exact step_read_delivered h (peek_addr (.calw 2) s) ((hbyte 2).trans (congrArg (· % 256) hlow))
  · exact step_read_delivered h (peek_addr (.cal i) s) rfl
  · exact step_read_delivered h (peek_addr (.sb j) s) rfl

/-- Settles O12: it holds, by the rule of a guarded read. -/
theorem guardedReadsNeedTheirFlag : Obligations.GuardedReadsNeedTheirFlag := by
  have hbyte : ∀ (w : Word) (j : Fin 4), (byteBE 4 w j.val).toNat = w.toNat / 2 ^ (24 - 8 * j.val) % 256 := by
    intro w j
    have hj : 8 * (4 - 1 - j.val) = 24 - 8 * j.val := by omega
    rw [byteBE_toNat, hj]
  exact fun s j es =>
    ⟨fun h => step_read_guarded h (peek_addr (.b5 j) s) (hbyte s.b5 j),
      fun h => step_read_guarded h (peek_addr (.t j) s) (hbyte s.t j),
      fun h => step_read_guarded h (peek_addr (.p j) s) (hbyte s.p j)⟩

/-- Settles O13: it holds; a read delivers its byte or is refused. -/
theorem readsChangeOnlyTheErrorLog : Obligations.ReadsChangeOnlyTheErrorLog := by
  intro s s' a es h hs
  rw [step_read h] at hs
  obtain rfl : _ = s' := Host.Outcome.next.inj hs
  obtain ⟨d, -, hd⟩ | ⟨e, -, he⟩ := memRead_cases a (s.withInputs es)
  · rw [hd]
    exact ⟨rfl, d, okay, rfl, fun _ => ⟨rfl, rfl⟩, fun h0 => absurd rfl h0⟩
  · rw [he]
    exact ⟨rfl, 0x00, e.code, rfl, fun h0 => absurd h0 (code_ne_zero e), fun _ => rfl⟩

/-- Settles O14: it holds; the four addresses read the four bytes of the word. -/
theorem fourByteReadsReassembleTheResult : Obligations.FourByteReadsReassembleTheResult := by
  intro s w base h
  refine ⟨byteBE 4 w 0, byteBE 4 w 1, byteBE 4 w 2, byteBE 4 w 3, ?_⟩
  have hbytes : ∀ j : Fin 4, peek (BitVec.ofNat 8 (base + j.val)) s = .ok (byteBE 4 w j.val) := by
    obtain ⟨rfl, rfl, hv⟩ | ⟨rfl, rfl, hv⟩ | ⟨rfl, rfl, hv⟩ := h
    · exact fun j => (peek_addr (.b5 j) s).trans (by rw [peekReg, hv, guardedByte_true])
    · exact fun j => (peek_addr (.t j) s).trans (by rw [peekReg, hv, guardedByte_true])
    · exact fun j => (peek_addr (.p j) s).trans (by rw [peekReg, hv, guardedByte_true])
  exact ⟨hbytes 0, hbytes 1, hbytes 2, hbytes 3, signedValue32_bytes w⟩

/-- Settles O15: it holds; the byte by `putCal_same` and `putCal_other`, the flags by `putCal_flag`. -/
theorem calWriteStoresUntilLocked : Obligations.CalWriteStoresUntilLocked := by
  intro s i d es h
  have hstep : step s = .next (writeCal i d (s.withInputs es)) := (step_write h).trans (memWrite_cal i d _)
  refine ⟨fun hc => ?_, fun hc => ⟨((s.withInputs es).putCal i d).okWrite, ?_, ?_, ?_, ?_, ?_, rfl⟩⟩
  · rw [hstep, writeCal, State.withInputs_calv, if_pos hc, raise_write_eq]
    rfl
  · rw [hstep, writeCal, State.withInputs_calv, hc, if_neg Bool.false_ne_true]
  · exact putCal_same _ i d
  · exact fun k hk => putCal_other _ i k d hk
  · rw [State.okWrite_calw, putCal_flag _ i d _ i.isLt, decide_eq_true rfl, Bool.or_true]
  · intro k hk
    rw [State.okWrite_calw, putCal_flag _ i d _ k.isLt, decide_eq_false (Fin.val_ne_of_ne hk), Bool.or_false]
    rfl

/-- Settles O16: it holds; the byte by `putSb_same` and `putSb_other`, the flags by `putSb_flag`. -/
theorem sampleWriteStoresAlways : Obligations.SampleWriteStoresAlways := by
  intro s j d es h
  have hstep : step s = .next ((s.withInputs es).putSb j d).okWrite := (step_write h).trans (memWrite_sb j d _)
  refine ⟨_, hstep, putSb_same _ j d, fun k hk => putSb_other _ j k d hk, ?_, fun k hk => ?_, rfl⟩
  · rw [State.okWrite_sbw, putSb_flag _ j d _ j.isLt, decide_eq_true rfl, Bool.or_true]
  · rw [State.okWrite_sbw, putSb_flag _ j d _ k.isLt, decide_eq_false (Fin.val_ne_of_ne hk), Bool.or_false]
    rfl

/-- Settles O17: it holds, by the two cases of a write to OSS. -/
theorem modeWriteTakesZeroToThree : Obligations.ModeWriteTakesZeroToThree := by
  intro s d es h
  rw [step_write h, memWrite_oss, writeOss]
  refine ⟨fun hd => ⟨((s.withInputs es).putOss (d.setWidth 2)).okWrite, ?_, ?_, rfl⟩, fun hd => ?_⟩
  · rw [if_pos hd]
  · exact (BitVec.toNat_setWidth 2 d).trans (Nat.mod_eq_of_lt (by omega))
  · rw [if_neg (by omega), raise_write_eq]
    rfl

/-- Settles O18: it holds, by the frame of a write, register by register. -/
theorem byteWriteLeavesOtherAddressesAlone : Obligations.ByteWriteLeavesOtherAddressesAlone := by
  intro s s' a b d es h ha hs hba hstatus herr hcause hcalw
  rw [step_write h] at hs
  refine (peek_congr fun q hq => ?_).trans (peek_withInputs b s es)
  subst hq
  refine peekReg_memWrite hs ha hba ?_ ?_ ?_ ?_
  · rintro rfl
    exact hstatus rfl
  · rintro rfl
    exact herr rfl
  · rintro rfl
    exact hcause rfl
  · rintro i k rfl rfl
    obtain ⟨h5, h6, h7⟩ := hcalw (cal_addr_range i).1 (cal_addr_range i).2
    obtain hk | hk | hk := calw_addr k
    exacts [h5 hk, h6 hk, h7 hk]

/-- Settles O19: it holds; a byte write is idempotent and does not look at the inputs after it. -/
theorem byteWritesAreIdempotent : Obligations.ByteWritesAreIdempotent := by
  intro s a d es hr ha
  have hfirst (es) : step (s.withInputs (.transaction (.write a d) :: es)) = .next ((byteWrite a d s).withInputs es) :=
    step_byteWrite hr ha
  have hsecond : step ((byteWrite a d s).withInputs (.transaction (.write a d) :: es)) =
      .next ((byteWrite a d s).withInputs es) := by
    rw [step_byteWrite ((byteWrite_resetApplied ha).trans hr) ha, byteWrite_byteWrite]
  exact ⟨_, run_succ (hfirst es), (run_succ (hfirst _)).trans (run_succ hsecond)⟩

/-- Settles O24: it holds; LOCK leaves CALV set, the chains leave SBW cleared, and a refused command did not answer 0. -/
theorem repeatedCommandIsRefused : Obligations.RepeatedCommandIsRefused := by
  intro s s' i hi h hans
  cases i with
  | lock =>
    obtain ⟨-, rfl⟩ | ⟨-, -, rfl⟩ | ⟨-, -, rfl⟩ := execLock_cases h
    · exact absurd hans (raise_write_answer_ne_okay _ _)
    · exact (execLock_refused rfl).trans (congrArg _ (raise_write_eq _ _))
    · exact absurd hans (raise_write_answer_ne_okay _ _)
  | clrerr => exact absurd rfl hi
  | ctemp =>
    obtain ⟨-, rfl⟩ | ⟨-, -, rfl⟩ | ⟨-, -, rfl⟩ := execCtemp_cases h
    · exact absurd hans (raise_write_answer_ne_okay _ _)
    · exact absurd hans (raise_write_answer_ne_okay _ _)
    · exact (execCtemp_refused (ctempReady_of_sbw_zero rfl)).trans (congrArg _ (raise_write_eq _ _))
  | cpres =>
    obtain ⟨-, rfl⟩ | ⟨-, -, rfl⟩ | ⟨-, -, -, rfl⟩ | ⟨-, -, -, rfl⟩ := execCpres_cases h
    · exact absurd hans (raise_write_answer_ne_okay _ _)
    · exact absurd hans (raise_write_answer_ne_okay _ _)
    · exact (execCpres_refused (cpresReady_of_sbw_zero rfl)).trans (congrArg _ (raise_write_eq _ _))
    · exact absurd hans (raise_write_answer_ne_okay _ _)

end Sys2Proof.Proofs

/-! ## The bits no flag vouches for (R55, U2) -/

namespace Sys2Proof.Machine

open Sys2Proof.Rule

variable {s r : State}

/-- A guarded byte matters only while its flag is 1 (R55). -/
theorem guardedByte_congr {valid : Bool} {d d' : Byte} (h : valid = true → d' = d) :
    guardedByte valid d' = guardedByte valid d := by
  cases valid with
  | true => rw [h rfl]
  | false => rfl

/-- What reads none of B5, T and P is the same in both states. -/
theorem congr_of_sameVisible {α : Type} (f : State → α) (h : SameVisible s r)
    (hf : f { s with b5 := r.b5, t := r.t, p := r.p } = f s) : f r = f s := by
  obtain ⟨heq, -⟩ := h
  rw [heq, ← hf]

/-- While `TV = 1` the two states agree on B5, which CPRES reads. -/
theorem eq_of_sameVisible (h : SameVisible s r) (htv : s.tv = true) : r = { s with t := r.t, p := r.p } := by
  obtain ⟨heq, htemp, -⟩ := h
  rw [heq, (htemp htv).1]

/-- Every read delivers the same byte, or is refused alike. -/
theorem peek_eq_of_sameVisible (h : SameVisible s r) (a : Addr) : peek a r = peek a s := by
  have htv := congr_of_sameVisible State.tv h rfl
  have hpv := congr_of_sameVisible State.pv h rfl
  have ⟨_, htemp, hpres⟩ := h
  refine peek_congr fun q _ => ?_
  cases q with
  | b5 j =>
    simp only [peekReg, htv]
    exact guardedByte_congr fun hv => by rw [(htemp hv).1]
  | t j =>
    simp only [peekReg, htv]
    exact guardedByte_congr fun hv => by rw [(htemp hv).2]
  | p j =>
    simp only [peekReg, hpv]
    exact guardedByte_congr fun hv => by rw [hpres hv]
  | _ => exact congr_of_sameVisible (peekReg _) h rfl

/-- No input reads B5 and T while `TV = 0` or P while `PV = 0`. An update that sets TV writes B5 and T with it, one that
sets PV writes P, and every other is the same update of both states. -/
theorem sameVisible_portBlind : PortBlind SameVisible where
  calv h := congr_of_sameVisible State.calv h rfl
  calw h := congr_of_sameVisible State.calw h rfl
  tv h := congr_of_sameVisible State.tv h rfl
  sbw h := congr_of_sameVisible State.sbw h rfl
  tempD h := congr_of_sameVisible Machine.tempD h rfl
  tempB5 h := congr_of_sameVisible Machine.tempB5 h rfl
  presB4 h htv := (congrArg Machine.presB4 (eq_of_sameVisible h htv)).trans rfl
  presB7 h htv := (congrArg Machine.presB7 (eq_of_sameVisible h htv)).trans rfl
  inputs h := congr_of_sameVisible State.inputs h rfl
  resetApplied h := congr_of_sameVisible State.resetApplied h rfl
  answered a := fun ⟨heq, hflags⟩ => ⟨congrArg (State.answered · a) heq, hflags⟩
  raise x e := fun ⟨heq, hflags⟩ => ⟨congrArg (State.raise · x e) heq, hflags⟩
  clearErrors := fun ⟨heq, hflags⟩ => ⟨congrArg State.clearErrors heq, hflags⟩
  lockCal := fun ⟨heq, hflags⟩ => ⟨congrArg State.lockCal heq, hflags⟩
  consumeSample := fun ⟨heq, hflags⟩ => ⟨congrArg State.consumeSample heq, hflags⟩
  dropPressure := fun ⟨heq, htemp, _⟩ => ⟨congrArg State.dropPressure heq, htemp, nofun⟩
  dropTemperature := fun ⟨heq, _, hpres⟩ => ⟨congrArg State.dropTemperature heq, nofun, hpres⟩
  commitTemperature b t := fun ⟨heq, _, hpres⟩ =>
    ⟨congrArg (State.commitTemperature · b t) heq, fun _ => ⟨rfl, rfl⟩, hpres⟩
  commitPressure pp br := fun ⟨heq, htemp, _⟩ => ⟨congrArg (State.commitPressure · pp br) heq, htemp, fun _ => rfl⟩
  putOss m := fun ⟨heq, hflags⟩ => ⟨congrArg (State.putOss · m) heq, hflags⟩
  putCal i d := fun ⟨heq, hflags⟩ => ⟨congrArg (State.putCal · i d) heq, hflags⟩
  putSb j d := fun ⟨heq, hflags⟩ => ⟨congrArg (State.putSb · j d) heq, hflags⟩
  withInputs es := fun ⟨heq, hflags⟩ => ⟨congrArg (State.withInputs · es) heq, hflags⟩
  applyReset := fun ⟨heq, _⟩ => ⟨(congrArg State.applyReset heq).trans rfl, nofun, nofun⟩
  releaseReset := fun ⟨heq, hflags⟩ => ⟨congrArg State.releaseReset heq, hflags⟩

theorem step_follows_sameVisible (h : SameVisible s r) : Follows SameVisible (step s) (step r) :=
  sameVisible_portBlind.step_follows h fun a _ _ => peek_eq_of_sameVisible h a

end Sys2Proof.Machine

namespace Sys2Proof.Proofs

open Sys2Proof.Machine Sys2Proof.Rule

/-- Settles O56: it holds; a run on the one state is followed step by step on the other, reads included. -/
theorem unguardedBitsAreUnobservable : Obligations.UnguardedBitsAreUnobservable :=
  fun n s r _ h hrun => run_follows (fun _ _ => step_follows_sameVisible) n s r h hrun

end Sys2Proof.Proofs

/-! # Scope: the encodings (`30_encoding.md`)

`decode_eq_ok_iff` is the one fact about the decoder; the statements on command bytes are uses of it. The text form of a
transaction is read back digit by digit. The line `TEMP ut` is two sample writes, then CTEMP on a state in which the
rules' chain and the machine's are the same (`tempChain_values`). -/

namespace Sys2Proof.Machine

open Sys2Proof.Rule

/-! ### Command bytes (R71 to R74) -/

@[simp] theorem decode_encode (i : Instr) : decode (encode i) = .ok i := by cases i <;> rfl

/-- A byte decodes to a command exactly when it is the command's whole byte (R72). -/
theorem decode_eq_ok_iff {b : Byte} {i : Instr} : decode b = .ok i ↔ b = encode i :=
  ⟨eq_encode_of_decode, fun h => h ▸ decode_encode i⟩

/-- The host's question about the number of a byte is the decoding of that byte (R71). -/
theorem decodeTableWord_toNat (n : Nat) (b : Byte) : decodeTableWord n b.toNat = (decode b).toOption := by
  rw [decodeTableWord, if_pos b.isLt, BitVec.ofNat_toNat, BitVec.setWidth_eq]

/-- A byte that is none of the four of the table encodes no command (R73). -/
theorem decode_error_of_ne {d : Byte} (hlock : d ≠ 0x01) (hclrerr : d ≠ 0x02) (hctemp : d ≠ 0x20)
    (hcpres : d ≠ 0x21) : ∃ e, decode d = .error e := by
  cases hd : decode d with
  | error e => exact ⟨e, rfl⟩
  | ok i =>
    obtain rfl := decode_eq_ok_iff.1 hd
    cases i with
    | lock => exact absurd rfl hlock
    | clrerr => exact absurd rfl hclrerr
    | ctemp => exact absurd rfl hctemp
    | cpres => exact absurd rfl hcpres

@[simp] theorem memWrite_cmd (d : Byte) (s : State) : memWrite 0x00 d s = writeCmd d s := rfl

/-! ### The text of a transaction (R77) -/

@[simp] theorem hexValue_hexDigit : ∀ d : BitVec 4, hexValue (hexDigit d) = some d := by decide

/-- The two digits of a byte are read back as the byte. -/
@[simp] theorem hexPair_hexDigits (b : Byte) :
    hexPair (hexDigit (b.extractLsb' 4 4)) (hexDigit (b.extractLsb' 0 4)) = some b := by
  have hjoin : b.extractLsb' 4 4 ++ b.extractLsb' 0 4 = b :=
    (BitVec.extractLsb'_append_extractLsb'_eq_extractLsb' (start₁ := 0) (len₁ := 4) rfl).trans
      BitVec.extractLsb'_eq_self
  rw [hexPair, hexValue_hexDigit, hexValue_hexDigit]
  exact congrArg some hjoin

/-! ### The line `TEMP ut` (R78, R194) -/

@[simp] theorem hostByte_toNat (n : Nat) : (hostByte n).toNat = n % 256 := BitVec.toNat_ofNat n 8

/-- A number at the data port is its low byte (R53). -/
theorem ofNat_mod_eq_hostByte (n : Nat) : BitVec.ofNat 8 (n % 256) = hostByte n :=
  BitVec.eq_of_toNat_eq (by simp)

/-- The two bytes of a 16-bit number, joined (R24). -/
theorem u16_hostBytes {n : Nat} (h : n < 2 ^ 16) : u16 (hostByte (n / 256)) (hostByte n) = n := by
  rw [u16, hostByte_toNat, hostByte_toNat]
  omega

/-- A sample write is the next step (R57). -/
theorem step_sampleWrite {s : State} {j : Fin 3} {d : Byte} {es : List HostEvent}
    (h : Pending s (.write (Reg.sb j).addr d) es) : step s = .next ((s.withInputs es).putSb j d).okWrite :=
  (step_write h).trans (memWrite_sb j d _)

/-- Two sample writes at the head of the inputs store their bytes and set the flags of both (R57). -/
theorem run_sampleWrites {s : State} {hi lo : Byte} {es : List HostEvent} (n : Nat) (hr : s.resetApplied = false)
    (hin : s.inputs = asInputs (writesFrom sbBase [hi, lo]) ++ es) :
    run (n + 2) s = run n (((s.withInputs es).putSb 0 hi).putSb 1 lo).okWrite := by
  let s1 := ((s.withInputs (.transaction (.write (Reg.sb 1).addr lo) :: es)).putSb 0 hi).okWrite
  have hfirst : step s = .next s1 := step_sampleWrite ⟨hr, hin⟩
  have hsecond : step s1 = .next ((s1.withInputs es).putSb 1 lo).okWrite := step_sampleWrite ⟨hr, rfl⟩
  exact (run_succ hfirst).trans (run_succ hsecond)

/-- The chain of the rules depends only on CAL and SB (R103 to R108). -/
theorem tempChain_congr {s s' : State} {v : TempValues} (hcal : s'.cal = s.cal) (hsb : s'.sb = s.sb)
    (h : TempChain s v) : TempChain s' v := by
  unfold TempChain TempDivisor
  rwa [hcal, hsb]

/-- The machine's divisor is the one of the rules (R103 to R105). -/
theorem tempDivisor_values {s : State} {v : TempValues} (h : TempDivisor s v) : tempX1 s = v.x1 ∧ tempD s = v.d := by
  obtain ⟨ht0, ht1, hx1, hd⟩ := h
  have hut : rawTemp s = u16 s.sb[0] s.sb[1] := append_toNat_eq_u16 _ _
  have hac5 : coef s .AC5 = u16 s.cal[8] s.cal[9] := coefAt_of_unsigned rfl
  have hac6 : coef s .AC6 = u16 s.cal[10] s.cal[11] := coefAt_of_unsigned rfl
  have hmd : coef s .MD = s16 s.cal[20] s.cal[21] := coefAt_of_signed rfl
  have hx1' : tempX1 s = v.x1 := by
    rw [tempX1, tempT1, tempT0, hut, hac6, hac5, ← ht0, ← ht1]
    exact (floorQuot_iff_asr (k := 15)).1 hx1
  exact ⟨hx1', by rw [tempD, hx1', hmd, hd]⟩

/-- The machine's results are those of the rules (R106 to R108). -/
theorem tempChain_values {s : State} {v : TempValues} (h : TempChain s v) :
    tempD s ≠ 0 ∧ tempB5 s = v.b5 ∧ tempT s = v.t := by
  obtain ⟨hdiv, hn, hx2, hb5, ht⟩ := h
  obtain ⟨hx1, hd⟩ := tempDivisor_values hdiv
  have ⟨hd0, _⟩ := hx2
  have hmc : coef s .MC = s16 s.cal[18] s.cal[19] := coefAt_of_signed rfl
  have hn' : tempN s = v.n := by rw [tempN, shl_eq, hmc, hn]; rfl
  have hx2' : tempX2 s = v.x2 := by rw [tempX2, hn', hd, (floorQuot_iff_fdiv hd0).1 hx2]
  have hb5' : tempB5 s = v.b5 := by rw [tempB5, hx1, hx2', hb5]
  refine ⟨hd ▸ hd0, hb5', ?_⟩
  rw [tempT, hb5']
  exact (floorQuot_iff_asr (k := 4)).1 ht

/-- CTEMP with its precondition commits the results of the rules (R109). -/
theorem execCtemp_of_tempChain {s : State} {v : TempValues} (hr : ctempReady s = true) (h : TempChain s v) :
    execCtemp s = .next { s with
      answer := some (.write 0), sbw := 0, pv := false, tv := true, b5 := tc32 v.b5, t := tc32 v.t } := by
  obtain ⟨hd, hb5, ht⟩ := tempChain_values h
  rw [execCtemp, if_pos hr, if_neg hd, hb5, ht]
  rfl

/-- The results of the rules are read back from their registers as they are (R110). -/
theorem tc32_toInt_of_tempChain {s : State} {v : TempValues} (h : TempChain s v) :
    (tc32 v.b5).toInt = v.b5 ∧ (tc32 v.t).toInt = v.t := by
  obtain ⟨hd, hb5, ht⟩ := tempChain_values h
  exact ⟨by rw [← hb5, tc32_tempB5_toInt hd], by rw [← ht, tc32_tempT_toInt hd, tempT]⟩

/-- With both sample bytes written on a locked engine CTEMP is ready (R101). -/
theorem ctempReady_putSb {s : State} (hi lo : Byte) (hc : s.calv = true) :
    ctempReady ((s.putSb 0 hi).putSb 1 lo).okWrite = true := by
  simp [ctempReady, hc]

/-- Two sample writes and CTEMP on a locked engine commit the chain of the rules for the sample written. -/
theorem run_sampleWrites_ctemp {s : State} {hi lo : Byte} {es : List HostEvent} {v : TempValues} (hc : s.calv = true)
    (hr : s.resetApplied = false)
    (hin : s.inputs = asInputs (writesFrom sbBase [hi, lo] ++ [commandTransaction .ctemp]) ++ es)
    (h : TempChain { s with sb := (s.sb.set 0 hi).set 1 lo } v) :
    run 3 s = .next { s with
      inputs := es, answer := some (.write 0), sb := (s.sb.set 0 hi).set 1 lo, sbw := 0, pv := false, tv := true,
      b5 := tc32 v.b5, t := tc32 v.t } := by
  let s2 := (((s.withInputs (commandWrite 0x20 :: es)).putSb 0 hi).putSb 1 lo).okWrite
  have hwrites : run 3 s = run 1 s2 := run_sampleWrites 1 hr hin
  have hctemp : step s2 = execCtemp (s2.withInputs es) :=
    (step_write (s := s2) (a := 0x00) (d := 0x20) ⟨hr, rfl⟩).trans (memWrite_cmd 0x20 _)
  have hready : ctempReady (s2.withInputs es) = true := ctempReady_putSb (s := s.withInputs es) hi lo hc
  have hchain : TempChain (s2.withInputs es) v := tempChain_congr rfl rfl h
  exact hwrites.trans (run_succ (hctemp.trans (execCtemp_of_tempChain hready hchain)))

end Sys2Proof.Machine

namespace Sys2Proof.Proofs

open Sys2Proof.Machine Sys2Proof.Rule

/-- Settles O1: it holds, command by command, since a byte decodes to a command exactly when it is its encoding. -/
theorem decodeAcceptsExactlyTheTableBytes : Obligations.DecodeAcceptsExactlyTheTableBytes := by
  intro b i
  rw [decode_eq_ok_iff]
  constructor
  · rintro rfl
    cases i with
    | lock => exact .inl ⟨rfl, rfl, rfl, rfl⟩
    | clrerr => exact .inr (.inl ⟨rfl, rfl, rfl, rfl⟩)
    | ctemp => exact .inr (.inr (.inl ⟨rfl, rfl, rfl, rfl⟩))
    | cpres => exact .inr (.inr (.inr ⟨rfl, rfl, rfl, rfl⟩))
  · rintro (⟨rfl, -, -, rfl⟩ | ⟨rfl, -, -, rfl⟩ | ⟨rfl, -, -, rfl⟩ | ⟨rfl, -, -, rfl⟩) <;> rfl

/-- Settles O2: it holds, by `decode_encode` and its converse. -/
theorem decodeOfEncodeIsTheCommand : Obligations.DecodeOfEncodeIsTheCommand := fun i _ =>
  ⟨decode_encode i, by rw [decodeTableWord_toNat, decode_encode]; rfl, fun _ => eq_encode_of_decode⟩

/-- Settles O3: it holds, since each pair of digits is read back as its byte. -/
theorem parsedScriptLineIsTheTransaction : Obligations.ParsedScriptLineIsTheTransaction := by
  intro t
  cases t <;> simp [renderTransaction, parseTransaction, hexByte, hexPair_hexDigits]

/-- Settles O5: it holds; such a byte decodes to no command, and the port refuses it. -/
theorem illegalCommandByteIsRefused : Obligations.IllegalCommandByteIsRefused := by
  intro s d es h hlock hclrerr hctemp hcpres
  obtain ⟨e, he⟩ := decode_error_of_ne hlock hclrerr hctemp hcpres
  rw [step_write h, memWrite_cmd, writeCmd, he]
  exact congrArg Host.Outcome.next (raise_write_eq (s.withInputs es) .cmd)

/-- Settles O59: it holds; the two sample writes make CTEMP ready, and CTEMP commits the chain of the rules. -/
theorem tempLineCompensatesItsOperand : Obligations.TempLineCompensatesItsOperand := by
  intro s ut v es hwf hc hr hin hchain
  have hut : ut < 2 ^ 16 := of_decide_eq_true hwf
  rw [ofNat_mod_eq_hostByte] at hchain
  obtain ⟨hb5, ht⟩ := tc32_toInt_of_tempChain hchain
  have hmsb : ut / 256 % 256 = ut / 256 := Nat.mod_eq_of_lt (by omega)
  have ⟨⟨ht0, _⟩, _⟩ := hchain
  refine ⟨?_, _, run_sampleWrites_ctemp hc hr hin hchain, hb5, ht, ?_, ?_, ?_, rfl⟩
  · rw [ht0, ← u16_hostBytes hut]
    simp [hostByte]
  · simpa using hmsb
  · simp
  · simp

end Sys2Proof.Proofs

/-! # Scope: calibration and control (`40_calibration_control.md`)

First LOCK and the chains on an unlocked engine, one rule per outcome. A load of the block is `run_calWrites` from base 0;
LOCK after it finds every flag set, and the optional write of the mode is one more step. -/

namespace Sys2Proof.Machine

open Sys2Proof.Rule

/-! ### Commands on an unlocked engine (R90, R101, R121) -/

/-- LOCK with some calibration byte unwritten is refused with E_SEQ (R90). -/
theorem execLock_refused_of_unwritten {s : State} (hc : s.calv = false) (hw : allCalWritten s = false) :
    execLock s = .next (s.raise .write .seq) := by
  simp [execLock, hc, hw]

/-- LOCK on an unlocked, fully written block locks it (R90). -/
theorem execLock_locks {s : State} (hc : s.calv = false) (hw : allCalWritten s = true) :
    execLock s = .next s.lockCal.okWrite := by
  simp [execLock, hc, hw]

theorem ctempReady_of_unlocked {s : State} (hc : s.calv = false) : ctempReady s = false := by simp [ctempReady, hc]

theorem cpresReady_of_unlocked {s : State} (hc : s.calv = false) : cpresReady s = false := by simp [cpresReady, hc]

/-! ### The initialisation sequence (R92, R193) -/

theorem asInputs_append (ts us : List Transaction) : asInputs (ts ++ us) = asInputs ts ++ asInputs us :=
  List.map_append

/-- A whole block written at ascending addresses fills CAL and sets every CALW flag (R56, R92). -/
theorem run_blockWrites {s : State} {block : List Byte} {es : List HostEvent} (hlen : block.length = 22)
    (hc : s.calv = false) (hr : s.resetApplied = false)
    (hin : s.inputs = asInputs (writesFrom calBase block) ++ es) (m : Nat) :
    ∃ s' : State, run (22 + m) s = run m s' ∧ s'.cal.toList = block ∧ s'.calw = BitVec.allOnes 22 ∧
      s' = { s with inputs := es, answer := s'.answer, cal := s'.cal, calw := s'.calw } := by
  obtain ⟨s', hrun, hframe, hcal, hcalw⟩ := run_calWrites block 0 s es (by omega) hc hr hin m
  have hwritten : allCalWritten s' = true :=
    (allCalWritten_iff s').2 fun k hk => by rw [hcalw k hk]; simp [hlen, hk]
  refine ⟨s', hlen ▸ hrun, ?_, beq_iff_eq.1 hwritten, hframe⟩
  refine List.ext_getElem (by simp [hlen]) fun k hk _ => ?_
  have hk22 : k < 22 := by simpa using hk
  simpa [hlen, hk22] using hcal k hk22

/-- The block and LOCK after it leave the engine locked with the block (R90, R92). -/
theorem run_blockWrites_lock {s : State} {block : List Byte} {es : List HostEvent} (hlen : block.length = 22)
    (hc : s.calv = false) (hr : s.resetApplied = false)
    (hin : s.inputs = asInputs (writesFrom calBase block ++ [commandTransaction .lock]) ++ es) (m : Nat) :
    ∃ cal : Vector Byte 22, cal.toList = block ∧ run (23 + m) s = run m { s with
      inputs := es, answer := some (.write 0), calv := true, cal := cal, calw := BitVec.allOnes 22 } := by
  have hin' : s.inputs = asInputs (writesFrom calBase block) ++ commandWrite (encode .lock) :: es := by
    rw [hin, asInputs_append, List.append_assoc]
    rfl
  obtain ⟨s1, hrun, hcal, hcalw, hframe⟩ := run_blockWrites hlen hc hr hin' (m + 1)
  have hr1 : s1.resetApplied = false := by rw [hframe]; exact hr
  have hc1 : s1.calv = false := by rw [hframe]; exact hc
  have hin1 : s1.inputs = commandWrite (encode .lock) :: es := by rw [hframe]
  have hw1 : allCalWritten (s1.withInputs es) = true := beq_iff_eq.2 hcalw
  have hlock : step s1 = .next (s1.withInputs es).lockCal.okWrite :=
    (Proofs.stepRunsTheDecodedCommand s1 _ .lock es hr1 hin1 (decode_encode .lock)).trans (execLock_locks hc1 hw1)
  refine ⟨s1.cal, hcal, ?_⟩
  calc run (23 + m) s
      = run (22 + (m + 1)) s := by rw [Nat.add_comm m 1, ← Nat.add_assoc]
    _ = run (m + 1) s1 := hrun
    _ = run m (s1.withInputs es).lockCal.okWrite := run_succ hlock
    _ = _ := by rw [← hcalw, hframe]; rfl

/-- A mode level written to OSS is stored (R58). -/
theorem step_modeWrite {s : State} {m : BitVec 2} {es : List HostEvent}
    (h : Pending s (.write 0x01 (m.setWidth 8)) es) : step s = .next ((s.withInputs es).putOss m).okWrite := by
  have hle : (m.setWidth 8).toNat ≤ 3 := by
    have := m.isLt
    simp
    omega
  have hback : (m.setWidth 8).setWidth 2 = m := BitVec.setWidth_setWidth_of_le m (by decide)
  rw [step_write h, memWrite_oss, writeOss, if_pos hle, hback]

/-- The optional write of the mode on an engine whose last answer is OKAY (R193 step 4). -/
theorem run_modeWrite {s : State} {es : List HostEvent} (mode : Option (BitVec 2)) (hr : s.resetApplied = false)
    (hin : s.inputs = asInputs (modeWrite mode) ++ es) (hans : s.answer = some (.write 0)) :
    run (modeWrite mode).length s = .next { s with
      inputs := es, answer := some (.write 0), oss := mode.getD s.oss } := by
  cases mode with
  | none =>
    have hes : s.inputs = es := hin
    rw [← hans, ← hes]
    rfl
  | some m =>
    have hstep : step s = .next ((s.withInputs es).putOss m).okWrite := step_modeWrite ⟨hr, hin⟩
    exact run_succ hstep

/-- After a match the sequence is the block, LOCK and the optional write of the mode (R193). -/
theorem initSequence_of_match {chipId : Byte} (h : chipId = Config.chipIdExpected) (block : List Byte)
    (mode : Option (BitVec 2)) : initSequence chipId block mode =
      writesFrom calBase block ++ [commandTransaction .lock] ++ modeWrite mode := if_pos h

end Sys2Proof.Machine

namespace Sys2Proof.Proofs

open Sys2Proof.Machine Sys2Proof.Rule

/-- Settles O22: it holds; each clause is the rule of one outcome of LOCK. -/
theorem lockSetsCalvOrIsRefused : Obligations.LockSetsCalvOrIsRefused := by
  intro s
  refine ⟨fun hc => ?_, fun hc ⟨i, hi⟩ => ?_, fun hc hall => ?_⟩
  · exact (execLock_refused hc).trans (congrArg _ (raise_write_eq s .locked))
  · have hw : allCalWritten s = false := by
      refine Bool.eq_false_iff.2 fun h => ?_
      exact Bool.false_ne_true (hi.symm.trans ((allCalWritten_iff s).1 h i i.isLt))
    exact (execLock_refused_of_unwritten hc hw).trans (congrArg _ (raise_write_eq s .seq))
  · exact execLock_locks hc ((allCalWritten_iff s).2 fun i hi => hall ⟨i, hi⟩)

/-- Settles O23: it holds; EF is the comparison of ERR with 0 (R37), and CLRERR leaves ERR = 0. -/
theorem clrerrClearsTheLogOnly : Obligations.ClrerrClearsTheLogOnly := by
  intro s
  obtain ⟨-, -, -, -, -, -, -, hef⟩ := statusByte_bits s.clearErrors.okWrite
  exact ⟨s.clearErrors.okWrite, execClrerr_eq s, rfl, _, rfl, by rw [hef]; rfl⟩

/-- Settles O57: it holds; the block and LOCK take 23 steps (`run_blockWrites_lock`), the write of the mode one more. -/
theorem initialisationLoadsAndLocksTheBlock : Obligations.InitialisationLoadsAndLocksTheBlock := by
  intro s chipId block mode es hchip hlen hc hr hin
  have hin' : s.inputs = asInputs (writesFrom calBase block ++ [commandTransaction .lock]) ++
      (asInputs (modeWrite mode) ++ es) := by
    rw [hin, initSequence_of_match hchip, asInputs_append, List.append_assoc]
  have hsteps : (if mode = none then 23 else 24) = 23 + (modeWrite mode).length := by cases mode <;> rfl
  obtain ⟨cal, hcal, hlock⟩ := run_blockWrites_lock hlen hc hr hin' (modeWrite mode).length
  rw [hsteps]
  exact ⟨_, hlock.trans (run_modeWrite mode hr rfl rfl), hcal, rfl, rfl⟩

/-- Settles O58: it holds; a mismatch issues nothing, and CALV = 0 fails the precondition of both chains. -/
theorem mismatchedChipLeavesEveryChainRefused : Obligations.MismatchedChipLeavesEveryChainRefused := by
  refine ⟨fun _ _ _ hchip => if_neg hchip, fun i s hc hi => ?_⟩
  have hseq : s.raise .write .seq = refusedWrite s 5 := raise_write_eq s .seq
  rw [← hseq]
  obtain rfl | rfl := hi
  · exact execCtemp_refused (ctempReady_of_unlocked hc)
  · exact execCpres_refused (cpresReady_of_unlocked hc)

end Sys2Proof.Proofs

/-! # Scope: temperature (`41_temperature.md`)

First CTEMP's precondition and its outcomes, one rule each. The bounds of R110 are proved of the machine's own chain;
`tempChain_eq` says that the rules have no other solution, which carries them over. The frame over SB[2] comes last. -/

namespace Sys2Proof.Machine

open Sys2Proof.Rule

variable {s s' : State}

/-! ### The outcomes of CTEMP (R101, R105, R109) -/

theorem ctempReady_iff : ctempReady s = true ↔ TempInputs s := by
  simp [ctempReady, and_assoc]

/-- CTEMP with its precondition and a zero divisor raises E_DIV0 (R102, R105). -/
theorem execCtemp_of_zero_divisor (hr : ctempReady s = true) (hd : tempD s = 0) :
    execCtemp s = .next (s.consumeSample.dropPressure.dropTemperature.raise .write .div0) := by
  rw [execCtemp, if_pos hr, if_pos hd]

/-- CTEMP with its precondition answers E_DIV0 or OKAY (R105, R109). -/
theorem execCtemp_answer_of_ready (hr : ctempReady s = true) (h : execCtemp s = .next s') :
    s'.answer = some (.write 7) ∨ s'.answer = some (.write 0) := by
  obtain ⟨hnot, -⟩ | ⟨-, -, rfl⟩ | ⟨-, -, rfl⟩ := execCtemp_cases h
  · exact absurd (hr.symm.trans hnot) (by decide)
  · exact .inl rfl
  · exact .inr rfl

/-- CTEMP answers E_SEQ, E_DIV0 or OKAY, and no other code. -/
theorem execCtemp_answer (h : execCtemp s = .next s') :
    s'.answer = some (.write 5) ∨ s'.answer = some (.write 7) ∨ s'.answer = some (.write 0) := by
  by_cases hr : ctempReady s = true
  · exact .inr (execCtemp_answer_of_ready hr h)
  · rw [execCtemp_refused (by simpa using hr)] at h
    exact .inl (Host.Outcome.next.inj h ▸ rfl)

/-- While `TV = 0` the eight bytes of B5 and T are refused with E_NOTVALID (R33, R55). -/
theorem peek_temperature_notvalid (htv : s.tv = false) {j : Nat} (hj : j < 8) :
    peek (BitVec.ofNat 8 (0x10 + j)) s = .error .notvalid := by
  rcases Nat.lt_or_ge j 4 with h4 | h4
  · have haddr : BitVec.ofNat 8 (0x10 + j) = (Reg.b5 ⟨j, h4⟩).addr := rfl
    rw [haddr, peek_addr, peekReg, htv, guardedByte_false]
  · obtain ⟨i, rfl⟩ := Nat.exists_eq_add_of_le h4
    have haddr : BitVec.ofNat 8 (0x10 + (4 + i)) = (Reg.t ⟨i, by omega⟩).addr := by rw [← Nat.add_assoc]; rfl
    rw [haddr, peek_addr, peekReg, htv, guardedByte_false]

/-! ### The bounds of the chain (R110) -/

theorem s16_bounds (hi lo : Byte) : -32768 ≤ s16 hi lo ∧ s16 hi lo ≤ 32767 := by
  have := u16_bounds hi lo
  unfold s16
  split_ifs <;> omega

/-- `t1` is a product of two 16-bit magnitudes (R104). -/
theorem tempT1_abs_le (s : State) : |tempT1 s| ≤ 4294836225 := by
  have hac5 : coef s .AC5 = u16 s.cal[8] s.cal[9] := coefAt_of_unsigned rfl
  have hbound := u16_bounds s.cal[8] s.cal[9]
  calc |tempT1 s| = |tempT0 s| * |u16 s.cal[8] s.cal[9]| := by rw [tempT1, hac5, abs_mul]
    _ ≤ 65535 * 65535 := by
      refine mul_le_mul (tempT0_abs_le s) ?_ (abs_nonneg _) (by norm_num)
      rw [abs_of_nonneg hbound.1]
      exact hbound.2
    _ = 4294836225 := by norm_num

/-- The exact range of `X1t`: floor takes the negative end one further from 0 (R104). -/
theorem tempX1_bounds (s : State) : -131069 ≤ tempX1 s ∧ tempX1 s ≤ 131068 := by
  have ht1 := abs_le.1 (tempT1_abs_le s)
  rw [tempX1, asr_eq_ediv_of_pow (b := 32768) (by norm_num)]
  omega

theorem tempD_bounds (s : State) : -163837 ≤ tempD s ∧ tempD s ≤ 163835 := by
  have hmd : coef s .MD = s16 s.cal[20] s.cal[21] := coefAt_of_signed rfl
  have := s16_bounds s.cal[20] s.cal[21]
  have := tempX1_bounds s
  rw [tempD, hmd]
  omega

/-- The quotient is no larger than its dividend (R106). -/
theorem tempX2_abs_le (hd : tempD s ≠ 0) : |tempX2 s| ≤ 67108864 := by
  have hone : 1 ≤ |tempD s| := Int.one_le_abs hd
  exact fdiv_abs_le hd ((tempN_abs_le s).trans (by omega))

theorem tempT_abs_le (hd : tempD s ≠ 0) : |tempT s| ≤ 4196352 := by
  have hb5 := abs_le.1 (tempB5_abs_le hd)
  rw [tempT, asr_eq_ediv_of_pow (b := 16) (by norm_num), abs_le]
  omega

/-- The values up to the division fit 34 bits signed (R110). -/
theorem tempDividend_fits34 (s : State) :
    ∀ x ∈ [tempT0 s, tempT1 s, tempX1 s, tempD s, tempN s], -(2 ^ 33) ≤ x ∧ x < 2 ^ 33 := by
  have ht0 := abs_le.1 (tempT0_abs_le s)
  have ht1 := abs_le.1 (tempT1_abs_le s)
  have hx1 := tempX1_bounds s
  have hd := tempD_bounds s
  have hn := abs_le.1 (tempN_abs_le s)
  simp only [List.forall_mem_cons, List.not_mem_nil, false_imp_iff, implies_true, and_true]
  omega

/-- The values from the division on fit 34 bits signed (R110). -/
theorem tempResult_fits34 (hd : tempD s ≠ 0) :
    ∀ x ∈ [tempX2 s, tempB5 s, tempB5 s + 8, tempT s], -(2 ^ 33) ≤ x ∧ x < 2 ^ 33 := by
  have hx2 := abs_le.1 (tempX2_abs_le hd)
  have hb5 := abs_le.1 (tempB5_abs_le hd)
  have ht := abs_le.1 (tempT_abs_le hd)
  simp only [List.forall_mem_cons, List.not_mem_nil, false_imp_iff, implies_true, and_true]
  omega

/-- The values the machine computes, under the names of R100's pseudocode. -/
def tempValues (s : State) : TempValues :=
  ⟨tempT0 s, tempT1 s, tempX1 s, tempD s, tempN s, tempX2 s, tempB5 s, tempT s⟩

/-- The machine's values are the only solution of the rules (R103 to R108). -/
theorem tempChain_eq {v : TempValues} (h : TempChain s v) : v = tempValues s := by
  obtain ⟨-, hb5, ht⟩ := tempChain_values h
  obtain ⟨hdiv, hn, -, hsum, -⟩ := h
  obtain ⟨hx1, hd⟩ := tempDivisor_values hdiv
  obtain ⟨ht0, ht1, -, -⟩ := hdiv
  have hut : rawTemp s = u16 s.sb[0] s.sb[1] := append_toNat_eq_u16 _ _
  have hac5 : coef s .AC5 = u16 s.cal[8] s.cal[9] := coefAt_of_unsigned rfl
  have hac6 : coef s .AC6 = u16 s.cal[10] s.cal[11] := coefAt_of_unsigned rfl
  have hmc : coef s .MC = s16 s.cal[18] s.cal[19] := coefAt_of_signed rfl
  have ht0' : tempT0 s = v.t0 := by rw [tempT0, hut, hac6, ht0]
  have ht1' : tempT1 s = v.t1 := by rw [tempT1, ht0', hac5, ht1]
  have hn' : tempN s = v.n := by rw [tempN, shl_eq, hmc, hn]; rfl
  have hx2' : tempX2 s = v.x2 := by
    rw [tempB5, hx1, hsum] at hb5
    exact add_left_cancel hb5
  rw [tempValues, ht0', ht1', hx1, hd, hn', hx2', hb5, ht]

/-! ### The third sample byte (R103, R123) -/

/-- In mode 0 the raw pressure is the first two sample bytes: the shift by 8 drops the third (R123). -/
theorem rawPressure_of_mode_zero (h : s.oss = 0) : rawPressure s = rawTemp s := by
  have hlo := s.sb[2].isLt
  have hraw : rawSample s = rawTemp s * 256 + (s.sb[2].toNat : Int) := by
    rw [rawSample, rawTemp, BitVec.toNat_append, ← Nat.shiftLeft_add_eq_or_of_lt hlo, Nat.shiftLeft_eq]
    push_cast
    rfl
  have hmode : modeLevel s = 0 := by rw [modeLevel, h]; rfl
  rw [rawPressure, hmode, asr_eq_ediv_of_pow (b := 256) (by norm_num), hraw]
  omega

theorem rawTemp_withXlsb (x : Byte) (s : State) : rawTemp (withXlsb x s) = rawTemp s := by
  simp [rawTemp, withXlsb]

theorem tempX1_withXlsb (x : Byte) (s : State) : tempX1 (withXlsb x s) = tempX1 s := by
  rw [tempX1, tempX1, tempT1, tempT1, tempT0, tempT0, rawTemp_withXlsb]
  rfl

theorem tempD_withXlsb (x : Byte) (s : State) : tempD (withXlsb x s) = tempD s := by
  rw [tempD, tempD, tempX1_withXlsb]
  rfl

theorem tempB5_withXlsb (x : Byte) (s : State) : tempB5 (withXlsb x s) = tempB5 s := by
  rw [tempB5, tempB5, tempX2, tempX2, tempX1_withXlsb, tempD_withXlsb]
  rfl

theorem presB7_withXlsb (x : Byte) (h : s.oss = 0) : presB7 (withXlsb x s) = presB7 s := by
  have hraw : rawPressure (withXlsb x s) = rawPressure s := by
    rw [rawPressure_of_mode_zero h, rawPressure_of_mode_zero (s := withXlsb x s) h, rawTemp_withXlsb]
  rw [presB7, presB7, presF0, presF0, hraw]
  rfl

theorem presPP_withXlsb (x : Byte) (h : s.oss = 0) : presPP (withXlsb x s) = presPP s := by
  rw [presPP, presPP, presP, presP, presB7_withXlsb x h]
  rfl

/-- CTEMP takes its sample from SB[0] and SB[1] alone (R103). -/
theorem execCtemp_withXlsb (x : Byte) (s : State) :
    execCtemp (withXlsb x s) = mapNext (withXlsb x) (execCtemp s) := by
  have hready : ctempReady (withXlsb x s) = ctempReady s := rfl
  rw [execCtemp, execCtemp, tempT, tempT, hready, tempD_withXlsb, tempB5_withXlsb]
  split_ifs <;> rfl

/-- In mode 0 CPRES takes its sample from SB[0] and SB[1] alone (R123). -/
theorem execCpres_withXlsb (x : Byte) (h : s.oss = 0) :
    execCpres (withXlsb x s) = mapNext (withXlsb x) (execCpres s) := by
  have hready : cpresReady (withXlsb x s) = cpresReady s := rfl
  have hb4 : presB4 (withXlsb x s) = presB4 s := rfl
  rw [execCpres, execCpres, hready, hb4, presPP_withXlsb x h, presB7_withXlsb x h]
  split_ifs <;> rfl

end Sys2Proof.Machine

namespace Sys2Proof.Proofs

open Sys2Proof.Machine Sys2Proof.Rule

/-- Settles O29: it holds; without the precondition CTEMP is refused, and with it the answer is E_DIV0 or OKAY. -/
theorem ctempIsRefusedExactlyWithoutItsInputs : Obligations.CtempIsRefusedExactlyWithoutItsInputs := by
  refine fun s => ⟨fun hnot => ?_, fun hin s' hs hans => ?_⟩
  · have hr : ctempReady s = false := Bool.eq_false_iff.2 (mt ctempReady_iff.1 hnot)
    exact (execCtemp_refused hr).trans (congrArg _ (raise_write_eq s .seq))
  · obtain h | h := execCtemp_answer_of_ready (ctempReady_iff.2 hin) hs
    · exact absurd (h.symm.trans hans) (by decide)
    · exact absurd (h.symm.trans hans) (by decide)

/-- Settles O30: it holds; CTEMP commits the results of the rules, and 32 bits hold them (`tc32_toInt_of_tempChain`). -/
theorem ctempCommitsTheChain : Obligations.CtempCommitsTheChain := by
  intro s v hin hchain
  obtain ⟨hb5, ht⟩ := tc32_toInt_of_tempChain hchain
  exact ⟨_, execCtemp_of_tempChain (ctempReady_iff.2 hin) hchain, hb5, ht, rfl⟩

/-- Settles O31: it holds; the machine's divisor is the one of the rules, and CTEMP raises E_DIV0 where it is 0. -/
theorem ctempZeroDivisorIsRefused : Obligations.CtempZeroDivisorIsRefused := by
  intro s v hin hdiv
  obtain ⟨-, hd⟩ := tempDivisor_values hdiv
  obtain ⟨hlo, hhi⟩ := hd ▸ tempD_bounds s
  refine ⟨hlo, hhi, fun hzero => ⟨_, execCtemp_of_zero_divisor (ctempReady_iff.2 hin) (hd.trans hzero), ?_, ?_⟩⟩
  · exact raise_write_eq s.consumeSample.dropPressure.dropTemperature .div0
  · exact fun j hj => peek_temperature_notvalid rfl hj

/-- Settles O32: it holds; the rules' only solution is the machine's chain, whose values are bounded line by line. -/
theorem temperatureChainStaysInBounds : Obligations.TemperatureChainStaysInBounds := by
  have ht1 : ∀ s : State, |tempT1 s| < 2 ^ 32 := fun s => (tempT1_abs_le s).trans_lt (by norm_num)
  refine ⟨fun s => ⟨ht1 s, tempDividend_fits34 s, fun hd => ?_⟩, fun s v h => ?_, fun s s' hs hans => ?_⟩
  · obtain ⟨hb5lo, hb5hi⟩ := abs_le.1 (tempB5_abs_le hd)
    obtain ⟨htlo, hthi⟩ := abs_le.1 (tempT_abs_le hd)
    exact ⟨hb5lo, hb5hi, htlo, hthi, tempResult_fits34 hd⟩
  · obtain ⟨hd, -, -⟩ := tempChain_values h
    obtain rfl := tempChain_eq h
    obtain ⟨hb5lo, hb5hi⟩ := abs_le.1 (tempB5_abs_le hd)
    obtain ⟨htlo, hthi⟩ := abs_le.1 (tempT_abs_le hd)
    exact ⟨hb5lo, hb5hi, htlo, hthi, ht1 s, List.forall_mem_append.2 ⟨tempDividend_fits34 s, tempResult_fits34 hd⟩⟩
  · obtain h | h | h := execCtemp_answer hs <;> exact absurd (h.symm.trans hans) (by decide)

/-- Settles O54: it holds; CTEMP reads two sample bytes, and in mode 0 the shift of CPRES drops the third. -/
theorem thirdSampleByteIsIgnored : Obligations.ThirdSampleByteIsIgnored := fun s x =>
  ⟨execCtemp_withXlsb x s, execCpres_withXlsb x⟩

end Sys2Proof.Proofs

/-! # Scope: pressure (`42_pressure.md`)

First the operands of CPRES, its precondition and its outcomes, one rule each. `presB4_of_front`, `presB7_of_front`,
`pressOf_of_quotient` and `pascalOf_of_tail` say that the rules have no other solution than the machine's chain. The bounds
of R142 follow line by line; those of the tail (R140) come from one quadratic inequality in `q`. -/

namespace Sys2Proof.Machine

open Sys2Proof.Rule

variable {s s' : State}

/-! ### The operands of CPRES (R123, R134) -/

/-- A byte joined below a word of any width (R61). -/
theorem append_byte_toNat {w : Nat} (x : BitVec w) (lo : Byte) : (x ++ lo).toNat = 256 * x.toNat + lo.toNat := by
  rw [BitVec.toNat_append, ← Nat.shiftLeft_add_eq_or_of_lt lo.isLt, Nat.shiftLeft_eq]
  omega

/-- The raw sample is the three bytes, the first the most significant (R123). -/
theorem rawSample_eq (s : State) :
    rawSample s = 65536 * (s.sb[0].toNat : Int) + 256 * s.sb[1].toNat + s.sb[2].toNat := by
  rw [rawSample, append_byte_toNat, append_toNat]
  push_cast
  ring

theorem rawSample_bounds (s : State) : 0 ≤ rawSample s ∧ rawSample s < 2 ^ 24 :=
  ⟨Int.natCast_nonneg _, Int.ofNat_lt.2 (s.sb[0] ++ s.sb[1] ++ s.sb[2]).isLt⟩

theorem modeLevel_lt (s : State) : modeLevel s < 4 := s.oss.isLt

/-- `UP` has `16 + m` bits: the shift by `8 - m` leaves that many of the 24 (R123). -/
theorem rawPressure_bounds (s : State) : 0 ≤ rawPressure s ∧ rawPressure s < 2 ^ (16 + modeLevel s) := by
  obtain ⟨hlo, hhi⟩ := rawSample_bounds s
  have hm := modeLevel_lt s
  have hbits : (2 : Int) ^ (16 + modeLevel s) * 2 ^ (8 - modeLevel s) = 2 ^ 24 := by
    rw [← pow_add]
    congr 1
    omega
  rw [rawPressure, asr_eq_ediv]
  exact ⟨Int.ediv_nonneg hlo (by positivity), Int.ediv_lt_of_lt_mul (by positivity) (hbits ▸ hhi)⟩

/-- `k` in the four modes (R134). -/
theorem presK_of_mode (s : State) :
    (s.oss = 0 → presK s = 50000) ∧ (s.oss = 1 → presK s = 25000) ∧ (s.oss = 2 → presK s = 12500) ∧
    (s.oss = 3 → presK s = 6250) := by
  refine ⟨fun h => ?_, fun h => ?_, fun h => ?_, fun h => ?_⟩ <;> rw [presK, modeLevel, h] <;> rfl

/-- `k = 50000 >> m` is exact in every mode (R134). -/
theorem presK_mul_two_pow (s : State) : presK s * 2 ^ modeLevel s = 50000 := by
  have hm := modeLevel_lt s
  rw [presK]
  interval_cases modeLevel s <;> rfl

theorem presK_bounds (s : State) : 0 ≤ presK s ∧ presK s ≤ 50000 := by
  have hm := modeLevel_lt s
  rw [presK]
  interval_cases modeLevel s <;> decide

/-- `B7 = 2^31` would make 50000, and so 5, a divisor of a power of two (R144 (b)). -/
theorem presB7_ne_threshold (s : State) : presB7 s ≠ 2147483648 := by
  intro h
  have hmul : presF0 s * 50000 = 2147483648 * 2 ^ modeLevel s := by
    rw [← presK_mul_two_pow s, ← mul_assoc]
    exact congrArg (· * 2 ^ modeLevel s) h
  have hm := modeLevel_lt s
  interval_cases modeLevel s <;> omega

/-! ### The outcomes of CPRES (R121, R135, R140, R141) -/

theorem cpresReady_iff : cpresReady s = true ↔ PresInputs s := by
  simp [cpresReady, and_assoc]

/-- CPRES with its precondition and `B4 = 0` raises E_DIV0 (R122, R135). -/
theorem execCpres_of_zero_divisor (hr : cpresReady s = true) (hb4 : presB4 s = 0) :
    execCpres s = .next (s.consumeSample.dropPressure.raise .write .div0) := by
  rw [execCpres, if_pos hr, if_pos hb4]

/-- CPRES with its precondition and a pressure that fits commits it (R141). -/
theorem execCpres_of_fits (hr : cpresReady s = true) (hb4 : presB4 s ≠ 0) (hfits : fits32 (presPP s) = true) :
    execCpres s = .next (s.consumeSample.commitPressure (presPP s) (branchOf (presB7 s))).okWrite := by
  rw [execCpres, if_pos hr, if_neg hb4, if_pos hfits]

/-- CPRES with its precondition and a pressure outside 32 bits raises E_RANGE (R140). -/
theorem execCpres_of_not_fits (hr : cpresReady s = true) (hb4 : presB4 s ≠ 0) (hfits : ¬ fits32 (presPP s) = true) :
    execCpres s = .next (s.consumeSample.dropPressure.raise .write .range) := by
  rw [execCpres, if_pos hr, if_neg hb4, if_neg hfits]

/-- CPRES with its precondition answers E_DIV0, OKAY or E_RANGE (R135, R140, R141). -/
theorem execCpres_answer_of_ready (hr : cpresReady s = true) (h : execCpres s = .next s') :
    s'.answer = some (.write 7) ∨ s'.answer = some (.write 0) ∨ s'.answer = some (.write 8) := by
  obtain ⟨hnot, -⟩ | ⟨-, -, rfl⟩ | ⟨-, -, -, rfl⟩ | ⟨-, -, -, rfl⟩ := execCpres_cases h
  · exact absurd (hr.symm.trans hnot) (by decide)
  · exact .inl rfl
  · exact .inr (.inl rfl)
  · exact .inr (.inr rfl)

/-- While `PV = 0` the four bytes of P are refused with E_NOTVALID (R34, R55). -/
theorem peek_pressure_notvalid (hpv : s.pv = false) {j : Nat} (hj : j < 4) :
    peek (BitVec.ofNat 8 (0x18 + j)) s = .error .notvalid := by
  have haddr : BitVec.ofNat 8 (0x18 + j) = (Reg.p ⟨j, hj⟩).addr := rfl
  rw [haddr, peek_addr, peekReg, hpv, guardedByte_false]

/-! ### The branch (R136) -/

theorem branchOf_iff (b7 : Int) : branchOf b7 = true ↔ 2147483648 ≤ b7 := decide_eq_true_iff

theorem pressOf_below {b7 : Int} (h : branchOf b7 = false) (b4 : Int) : pressOf b7 b4 = fdiv (b7 * 2) b4 := by
  rw [pressOf, h, if_neg Bool.false_ne_true]

theorem pressOf_above {b7 : Int} (h : branchOf b7 = true) (b4 : Int) : pressOf b7 b4 = fdiv b7 b4 * 2 := by
  rw [pressOf, h, if_pos rfl]

/-! ### The rules' only solution is the machine's chain (R124 to R139) -/

/-- The value of a shift from the rules' inequalities, once the dividends agree. -/
theorem asr_eq_of_floorQuot {a a' q : Int} {k : Nat} (h : FloorQuot a (2 ^ k) q) (ha : a' = a) : asr a' k = q :=
  ha ▸ floorQuot_iff_asr.1 h

section

variable {v : PresValues}

/-- `B6` and the shared square (R124, R125). -/
theorem presSquare_of_front (h : PresFront s v) : presB6 s = v.b6 ∧ presS1 s = v.s1 := by
  obtain ⟨-, hb6, hs0, hs1, -⟩ := h
  have hb6' : presB6 s = v.b6 := hb6.symm
  exact ⟨hb6', asr_eq_of_floorQuot (k := 12) hs1 (by rw [presS0, hb6', hs0])⟩

/-- `B3` (R126 to R129). -/
theorem presB3_of_front (h : PresFront s v) : presB3 s = v.b3 := by
  obtain ⟨hb6', hs1'⟩ := presSquare_of_front h
  obtain ⟨-, -, -, -, ha0, hx1a, ha1, hx2a, hx3a, hb0, hb1, hb2, hb3, -⟩ := h
  obtain ⟨hac1, hac2, -, -, -, -, -, hcb2, -⟩ := Proofs.coefficientsReadTheirTwoBytes s
  have hx1a' : presX1a s = v.x1a := asr_eq_of_floorQuot (k := 11) hx1a (by rw [presA0, hcb2, hs1', ha0])
  have hx2a' : presX2a s = v.x2a := asr_eq_of_floorQuot (k := 11) hx2a (by rw [presA1, hac2, hb6', ha1])
  have hb0' : presB0 s = v.b0 := by rw [presB0, presX3a, hac1, hx1a', hx2a', ← hx3a, hb0]
  have hb1' : presB1 s = v.b1 := by rw [presB1, shl_eq, hb0', hb1, modeLevel]
  exact asr_eq_of_floorQuot (k := 2) hb3 (by rw [hb1', hb2])

/-- `B4` (R130 to R133). -/
theorem presB4_of_front (h : PresFront s v) : presB4 s = v.b4 := by
  obtain ⟨hb6', hs1'⟩ := presSquare_of_front h
  obtain ⟨-, -, -, -, -, -, -, -, -, -, -, -, -, hc0, hx1b, hc1, hx2b, hc2, hx3b, he0, he1, hb4, -⟩ := h
  obtain ⟨-, -, hac3, hac4, -, -, hcb1, -⟩ := Proofs.coefficientsReadTheirTwoBytes s
  have hx1b' : presX1b s = v.x1b := asr_eq_of_floorQuot (k := 13) hx1b (by rw [presC0, hac3, hb6', hc0])
  have hx2b' : presX2b s = v.x2b := asr_eq_of_floorQuot (k := 16) hx2b (by rw [presC1, hcb1, hs1', hc1])
  have hx3b' : presX3b s = v.x3b := asr_eq_of_floorQuot (k := 2) hx3b (by rw [presC2, hx1b', hx2b', hc2])
  have he1' : presE1 s = v.e1 := by rw [presE1, presE0, hac4, hx3b', ← he0, he1]
  exact asr_eq_of_floorQuot (k := 15) hb4 he1'

/-- `B7` (R123, R134). -/
theorem presB7_of_front (h : PresFront s v) : presB7 s = v.b7 := by
  have hb3 := presB3_of_front h
  obtain ⟨hup, -, -, -, -, -, -, -, -, -, -, -, -, -, -, -, -, -, -, -, -, -, hk, hf0, hb7⟩ := h
  have hup' : rawPressure s = v.up := asr_eq_of_floorQuot hup (rawSample_eq s)
  have hk' : presK s = v.k := asr_eq_of_floorQuot hk rfl
  rw [presB7, presF0, hup', hb3, hk', ← hf0, hb7]

/-- The quotient of the branch (R136). -/
theorem pressOf_of_quotient {b7 b4 half p : Int} (hb4 : b4 ≠ 0) (h : PresQuotient b7 b4 half p) :
    pressOf b7 b4 = p := by
  obtain ⟨hbelow, habove⟩ := h
  cases hbr : branchOf b7 with
  | false =>
    have hb7 : b7 < 2147483648 := not_le.1 (mt (branchOf_iff b7).2 (Bool.eq_false_iff.1 hbr))
    rw [pressOf_below hbr, (floorQuot_iff_fdiv hb4).1 (hbelow hb7)]
  | true =>
    obtain ⟨hhalf, hp⟩ := habove ((branchOf_iff b7).1 hbr)
    rw [pressOf_above hbr, (floorQuot_iff_fdiv hb4).1 hhalf, hp]

/-- The tail (R137 to R139). -/
theorem pascalOf_of_tail {p : Int} {w : TailValues} (h : PresTail p w) : pascalOf p = w.pp := by
  obtain ⟨hq, hg0, hg1, hx1c, hh0, hx2c, hh1, hh2, hpp⟩ := h
  have hq' : tailQ p = w.q := asr_eq_of_floorQuot (k := 8) hq rfl
  have hx1c' : tailX1c p = w.x1c := asr_eq_of_floorQuot (k := 16) hx1c (by rw [tailG1, hq', ← hg0, hg1])
  have hx2c' : tailX2c p = w.x2c := asr_eq_of_floorQuot (k := 16) hx2c hh0.symm
  have hh2' : asr (tailH1 p) 4 = w.h2 := asr_eq_of_floorQuot (k := 4) hh2 (by rw [tailH1, hx1c', hx2c', hh1])
  rw [pascalOf, hh2', hpp]

/-- The pressure of the rules is the one the machine tests and commits (R123 to R139). -/
theorem presPP_of_chain {half p : Int} {w : TailValues} (h : PresFront s v) (hb4 : v.b4 ≠ 0)
    (hp : PresQuotient v.b7 v.b4 half p) (hw : PresTail p w) : presPP s = w.pp := by
  rw [presPP, presP, presB7_of_front h, presB4_of_front h, pressOf_of_quotient hb4 hp, pascalOf_of_tail hw]

end

/-! ### The bounds of the chain up to `p` (R142) -/

theorem abs_mul_le_of_abs_le {a b x y : Int} (ha : |a| ≤ x) (hb : |b| ≤ y) : |a * b| ≤ x * y := by
  rw [abs_mul]
  exact mul_le_mul ha hb (abs_nonneg b) ((abs_nonneg a).trans ha)

theorem coef_signed_abs_le {c : CoefName} (hc : coefUnsigned c.index = false) : |coef s c| ≤ 32768 := by
  rw [coef, coefAt_of_signed hc]
  exact s16_abs_le _ _

theorem coef_AC4_abs_le (s : State) : |coef s .AC4| ≤ 65535 := by
  have hac4 : coef s .AC4 = u16 s.cal[6] s.cal[7] := coefAt_of_unsigned rfl
  obtain ⟨hlo, hhi⟩ := u16_bounds s.cal[6] s.cal[7]
  rw [hac4, abs_of_nonneg hlo]
  exact hhi

/-- The factor `2^m` of the chain is at most 8 (R123). -/
theorem two_pow_modeLevel_bounds (s : State) : (1 : Int) ≤ 2 ^ modeLevel s ∧ (2 : Int) ^ modeLevel s ≤ 8 := by
  have hm := modeLevel_lt s
  interval_cases modeLevel s <;> decide

/-- In the scale of the mode `UP` has 16 bits (R123). -/
theorem rawPressure_abs_le (s : State) : |rawPressure s| ≤ 65536 * 2 ^ modeLevel s := by
  obtain ⟨hlo, hhi⟩ := rawPressure_bounds s
  rw [pow_add] at hhi
  rw [abs_of_nonneg hlo]
  exact hhi.le

section

variable (hb5 : |s.b5.toInt| ≤ 67141633)

include hb5

theorem presB6_abs_le : |presB6 s| ≤ 67145633 := by
  rw [abs_le] at hb5
  rw [presB6, abs_le]
  omega

theorem presS0_abs_le : |presS0 s| ≤ 67145633 * 67145633 :=
  abs_mul_le_of_abs_le (presB6_abs_le hb5) (presB6_abs_le hb5)

theorem presS1_abs_le : |presS1 s| ≤ 1101000000000 :=
  asr_abs_le 12 ((presS0_abs_le hb5).trans (by norm_num))

theorem presA0_abs_le : |presA0 s| ≤ 32768 * 1101000000000 :=
  abs_mul_le_of_abs_le (coef_signed_abs_le rfl) (presS1_abs_le hb5)

theorem presX1a_abs_le : |presX1a s| ≤ 17616000000000 :=
  asr_abs_le 11 ((presA0_abs_le hb5).trans (by norm_num))

theorem presA1_abs_le : |presA1 s| ≤ 32768 * 67145633 :=
  abs_mul_le_of_abs_le (coef_signed_abs_le rfl) (presB6_abs_le hb5)

theorem presX2a_abs_le : |presX2a s| ≤ 1074330128 :=
  asr_abs_le 11 ((presA1_abs_le hb5).trans (by norm_num))

theorem presX3a_abs_le : |presX3a s| ≤ 17617074330128 :=
  (abs_add_le _ _).trans (add_le_add (presX1a_abs_le hb5) (presX2a_abs_le hb5))

theorem presB0_abs_le : |presB0 s| ≤ 17617100000000 := by
  have hac1 : |coef s .AC1 * 4| ≤ 32768 * 4 := abs_mul_le_of_abs_le (coef_signed_abs_le rfl) le_rfl
  exact (abs_add_le _ _).trans ((add_le_add hac1 (presX3a_abs_le hb5)).trans (by norm_num))

theorem presB1_abs_le : |presB1 s| ≤ 17617100000000 * 2 ^ modeLevel s :=
  abs_mul_le_of_abs_le (presB0_abs_le hb5) (abs_of_pos (by positivity)).le

/-- The rounding constant is added at the scale of the mode (R129). -/
theorem presB1_add_two_abs_le : |presB1 s + 2| ≤ 17617200000000 * 2 ^ modeLevel s := by
  have hone := (two_pow_modeLevel_bounds s).1
  have hb1 := presB1_abs_le hb5
  have htwo : |presB1 s + 2| ≤ |presB1 s| + 2 := abs_add_le _ _
  omega

theorem presB3_abs_le : |presB3 s| ≤ 4404300000000 * 2 ^ modeLevel s :=
  asr_abs_le 2 ((presB1_add_two_abs_le hb5).trans (by linarith))

theorem presC0_abs_le : |presC0 s| ≤ 32768 * 67145633 :=
  abs_mul_le_of_abs_le (coef_signed_abs_le rfl) (presB6_abs_le hb5)

theorem presX1b_abs_le : |presX1b s| ≤ 268582532 :=
  asr_abs_le 13 ((presC0_abs_le hb5).trans (by norm_num))

theorem presC1_abs_le : |presC1 s| ≤ 32768 * 1101000000000 :=
  abs_mul_le_of_abs_le (coef_signed_abs_le rfl) (presS1_abs_le hb5)

theorem presX2b_abs_le : |presX2b s| ≤ 550500000000 :=
  asr_abs_le 16 ((presC1_abs_le hb5).trans (by norm_num))

theorem presC2_abs_le : |presC2 s| ≤ 550768582534 :=
  (abs_add_le _ _).trans (add_le_add_left
    ((abs_add_le _ _).trans (add_le_add (presX1b_abs_le hb5) (presX2b_abs_le hb5))) _)

theorem presX3b_abs_le : |presX3b s| ≤ 137692145634 :=
  asr_abs_le 2 ((presC2_abs_le hb5).trans (by norm_num))

theorem presE0_abs_le : |presE0 s| ≤ 137692178402 :=
  (abs_add_le _ _).trans (add_le_add_left (presX3b_abs_le hb5) _)

theorem presE1_abs_le : |presE1 s| ≤ 65535 * 137692178402 :=
  abs_mul_le_of_abs_le (coef_AC4_abs_le s) (presE0_abs_le hb5)

theorem presB4_abs_le : |presB4 s| ≤ 275384356804 :=
  asr_abs_le 15 ((presE1_abs_le hb5).trans (by norm_num))

theorem presF0_abs_le : |presF0 s| ≤ 4404400000000 * 2 ^ modeLevel s := by
  have hup := rawPressure_abs_le s
  have hb3 := presB3_abs_le hb5
  have hsub : |presF0 s| ≤ |rawPressure s| + |presB3 s| := abs_sub _ _
  linarith [(two_pow_modeLevel_bounds s).1]

/-- The `2^m` of `f0` and the `50000 >> m` of `k` cancel (R142). -/
theorem presB7_abs_le : |presB7 s| ≤ 220220000000000000 := by
  calc |presB7 s| ≤ 4404400000000 * 2 ^ modeLevel s * presK s :=
        abs_mul_le_of_abs_le (presF0_abs_le hb5) (abs_of_nonneg (presK_bounds s).1).le
    _ = 4404400000000 * (presK s * 2 ^ modeLevel s) := by ring
    _ = 220220000000000000 := by rw [presK_mul_two_pow]; norm_num

end

/-- A quotient is no larger than its dividend, so `p` is at most `2 * |B7|` in both branches (R136). -/
theorem pressOf_abs_le {b7 b4 : Int} (hb4 : b4 ≠ 0) : |pressOf b7 b4| ≤ |b7| * 2 := by
  have hquot : ∀ a : Int, |fdiv a b4| ≤ |a| := fun a =>
    fdiv_abs_le hb4 (le_mul_of_one_le_right (abs_nonneg a) (Int.one_le_abs hb4))
  have htwo : ∀ a : Int, |a * 2| = |a| * 2 := fun a => abs_mul a 2
  cases hbr : branchOf b7 with
  | false =>
    rw [pressOf_below hbr, ← htwo]
    exact hquot _
  | true =>
    rw [pressOf_above hbr, htwo]
    exact mul_le_mul_of_nonneg_right (hquot b7) (by norm_num)

/-- A bound in 64 bits signed (R142). -/
theorem fits64_of_abs_le {x c : Int} (h : |x| ≤ c) (hc : c < 2 ^ 63 := by norm_num) : -(2 ^ 63) ≤ x ∧ x < 2 ^ 63 :=
  ⟨(abs_lt.1 (h.trans_lt hc)).1.le, (abs_lt.1 (h.trans_lt hc)).2⟩

theorem presChain_fits64 (hb5 : |s.b5.toInt| ≤ 67141633) :
    ∀ x ∈ [rawPressure s, presB6 s, presS0 s, presS1 s, presA0 s, presX1a s, presA1 s, presX2a s, presX3a s, presB0 s,
        presB1 s, presB1 s + 2, presB3 s, presC0 s, presX1b s, presC1 s, presX2b s, presC2 s, presX3b s, presE0 s,
        presE1 s, presB4 s, presK s, presF0 s, presB7 s, presB7 s * 2],
      -(2 ^ 63) ≤ x ∧ x < 2 ^ 63 := by
  have hpow := (two_pow_modeLevel_bounds s).2
  have hk : |presK s| ≤ 50000 := (abs_of_nonneg (presK_bounds s).1).trans_le (presK_bounds s).2
  have htwice : |presB7 s * 2| ≤ 220220000000000000 * 2 := abs_mul_le_of_abs_le (presB7_abs_le hb5) le_rfl
  simp only [List.forall_mem_cons, List.not_mem_nil, false_imp_iff, implies_true, and_true]
  exact ⟨fits64_of_abs_le (rawPressure_abs_le s) (by linarith), fits64_of_abs_le (presB6_abs_le hb5),
    fits64_of_abs_le (presS0_abs_le hb5), fits64_of_abs_le (presS1_abs_le hb5), fits64_of_abs_le (presA0_abs_le hb5),
    fits64_of_abs_le (presX1a_abs_le hb5), fits64_of_abs_le (presA1_abs_le hb5), fits64_of_abs_le (presX2a_abs_le hb5),
    fits64_of_abs_le (presX3a_abs_le hb5), fits64_of_abs_le (presB0_abs_le hb5),
    fits64_of_abs_le (presB1_abs_le hb5) (by linarith), fits64_of_abs_le (presB1_add_two_abs_le hb5) (by linarith),
    fits64_of_abs_le (presB3_abs_le hb5) (by linarith), fits64_of_abs_le (presC0_abs_le hb5),
    fits64_of_abs_le (presX1b_abs_le hb5), fits64_of_abs_le (presC1_abs_le hb5), fits64_of_abs_le (presX2b_abs_le hb5),
    fits64_of_abs_le (presC2_abs_le hb5), fits64_of_abs_le (presX3b_abs_le hb5), fits64_of_abs_le (presE0_abs_le hb5),
    fits64_of_abs_le (presE1_abs_le hb5), fits64_of_abs_le (presB4_abs_le hb5), fits64_of_abs_le hk,
    fits64_of_abs_le (presF0_abs_le hb5) (by linarith), fits64_of_abs_le (presB7_abs_le hb5), fits64_of_abs_le htwice⟩

/-! ### The tail (R137 to R140) -/

/-- `p` in terms of its shift (R137). -/
theorem tailQ_bounds (p : Int) : 256 * tailQ p ≤ p ∧ p ≤ 256 * tailQ p + 255 := by
  rw [tailQ, asr_eq_ediv_of_pow (b := 256) (by norm_num)]
  omega

/-- `2^20 * pp` lies between two quadratics in `q`: the three floors of the tail together lose less than 18 units of
`2^16`, and `3791 * 2^16` outweighs them. -/
theorem pascalOf_quadratic (p : Int) :
    3038 * (tailQ p * tailQ p) + 1041219 * p ≤ 1048576 * pascalOf p ∧
    1048576 * pascalOf p ≤ 3038 * (tailQ p * tailQ p) + 1041219 * p + 248446976 := by
  rw [pascalOf, tailH1, tailX1c, tailX2c, tailG1, asr_eq_ediv_of_pow (k := 4) (b := 16) (by norm_num),
    asr_eq_ediv_of_pow (k := 16) (b := 65536) (by norm_num), asr_eq_ediv_of_pow (k := 16) (b := 65536) (by norm_num)]
  generalize tailQ p * tailQ p = g
  omega

/-- The minimum of the quadratic, at `q = -133276032 / 3038`, is above -5600000 Pa (R140). -/
theorem pascalOf_ge (p : Int) : -5600000 ≤ pascalOf p := by
  have hmin : 0 ≤ (3038 * tailQ p + 133276032) * (3038 * tailQ p + 133276032) := mul_self_nonneg _
  linarith [(tailQ_bounds p).1, (pascalOf_quadratic p).1]

/-- Between the ends of R140 the quadratic is below its chord, and so in 32 bits. -/
theorem pascalOf_le_of_mem {p : Int} (hlo : -231000000 ≤ p) (hhi : p ≤ 209000000) : pascalOf p ≤ 2147483647 := by
  obtain ⟨hql, hqh⟩ := tailQ_bounds p
  have hchord : 0 ≤ (tailQ p + 902344) * (816406 - tailQ p) := mul_nonneg (by omega) (by omega)
  linarith [(pascalOf_quadratic p).2]

/-- Where the pressure fits 32 bits, `q` has less than 20 bits and a sign: beyond 940000 the square alone exceeds the
range (R142). -/
theorem tailQ_abs_le_of_fits {p : Int} (h : pascalOf p ≤ 2147483647) : |tailQ p| ≤ 940000 := by
  have hp := (tailQ_bounds p).1
  have hquad := (pascalOf_quadratic p).1
  rw [abs_le]
  constructor
  · by_contra! hlt
    have hsq : 0 ≤ (tailQ p + 940000) * tailQ p := mul_nonneg_of_nonpos_of_nonpos (by omega) (by omega)
    linarith
  · by_contra! hgt
    have hsq : 0 ≤ (tailQ p - 940000) * tailQ p := mul_nonneg (by omega) (by omega)
    linarith

section

variable {p : Int} (hq : |tailQ p| ≤ 940000)

include hq

theorem tailP_abs_le : |p| ≤ 240640255 := by
  obtain ⟨hlo, hhi⟩ := tailQ_bounds p
  rw [abs_le] at hq ⊢
  omega

theorem tailG0_abs_le : |tailQ p * tailQ p| ≤ 883600000000 := abs_mul_le_of_abs_le hq hq

theorem tailG1_abs_le : |tailG1 p| ≤ 883600000000 * 3038 := abs_mul_le_of_abs_le (tailG0_abs_le hq) le_rfl

theorem tailX1c_abs_le : |tailX1c p| ≤ 40970000000 := asr_abs_le 16 ((tailG1_abs_le hq).trans (by norm_num))

theorem tailH0_abs_le : |-7357 * p| ≤ 7357 * 240640255 := abs_mul_le_of_abs_le le_rfl (tailP_abs_le hq)

theorem tailX2c_abs_le : |tailX2c p| ≤ 27100000 := asr_abs_le 16 ((tailH0_abs_le hq).trans (by norm_num))

theorem tailH1_abs_le : |tailH1 p| ≤ 40997103791 :=
  (abs_add_le _ _).trans (add_le_add_left
    ((abs_add_le _ _).trans (add_le_add (tailX1c_abs_le hq) (tailX2c_abs_le hq))) _)

theorem tailH2_abs_le : |asr (tailH1 p) 4| ≤ 2562318987 := asr_abs_le 4 ((tailH1_abs_le hq).trans (by norm_num))

theorem pascalOf_abs_le : |pascalOf p| ≤ 240640255 + 2562318987 :=
  (abs_add_le _ _).trans (add_le_add (tailP_abs_le hq) (tailH2_abs_le hq))

theorem tail_fits64 :
    ∀ x ∈ [p, tailQ p, tailQ p * tailQ p, tailG1 p, tailX1c p, -7357 * p, tailX2c p, tailH1 p, asr (tailH1 p) 4,
        pascalOf p],
      -(2 ^ 63) ≤ x ∧ x < 2 ^ 63 := by
  simp only [List.forall_mem_cons, List.not_mem_nil, false_imp_iff, implies_true, and_true]
  exact ⟨fits64_of_abs_le (tailP_abs_le hq), fits64_of_abs_le hq, fits64_of_abs_le (tailG0_abs_le hq),
    fits64_of_abs_le (tailG1_abs_le hq), fits64_of_abs_le (tailX1c_abs_le hq), fits64_of_abs_le (tailH0_abs_le hq),
    fits64_of_abs_le (tailX2c_abs_le hq), fits64_of_abs_le (tailH1_abs_le hq), fits64_of_abs_le (tailH2_abs_le hq),
    fits64_of_abs_le (pascalOf_abs_le hq)⟩

end

/-! ### The two formulas at the branch (R143) -/

/-- Doubling before dividing exceeds doubling after it by 0 or 1 (R143). -/
theorem fdiv_double_bounds (a : Int) {b : Int} (hb : 0 < b) :
    fdiv a b * 2 ≤ fdiv (a * 2) b ∧ fdiv (a * 2) b ≤ fdiv a b * 2 + 1 := by
  obtain ⟨hlo, hhi⟩ := fdiv_bounds_of_pos a hb
  rw [fdiv_eq_ediv_of_pos hb (a := a * 2), ← Int.lt_add_one_iff (b := fdiv a b * 2 + 1)]
  exact ⟨Int.le_ediv_of_mul_le hb (by linarith), Int.ediv_lt_of_lt_mul hb (by linarith)⟩

/-- On one side of 2^31 `p` is one quotient, which keeps an order (R143). -/
theorem pressOf_mono {b7 b7' b4 : Int} (hb4 : 0 < b4) (hle : b7 ≤ b7') (hbr : branchOf b7 = branchOf b7') :
    pressOf b7 b4 ≤ pressOf b7' b4 := by
  cases h : branchOf b7 with
  | false =>
    rw [pressOf_below h, pressOf_below (hbr ▸ h)]
    exact fdiv_mono_of_pos hb4 (by omega)
  | true =>
    rw [pressOf_above h, pressOf_above (hbr ▸ h)]
    have := fdiv_mono_of_pos hb4 hle
    omega

end Sys2Proof.Machine

namespace Sys2Proof.Proofs

open Sys2Proof.Machine Sys2Proof.Rule

/-- Settles O28: it holds; the shift is the floor quotient, and it leaves `16 + m` of the 24 bits. -/
theorem rawPressureIsTheShiftedSample : Obligations.RawPressureIsTheShiftedSample := by
  intro s
  obtain ⟨hlo, hhi⟩ := rawPressure_bounds s
  exact ⟨rawSample_eq s, floorQuot_iff_asr.2 rfl, hlo, Int.le_sub_one_of_lt hhi,
    fun h => (rawPressure_of_mode_zero h).trans (append_toNat_eq_u16 _ _)⟩

/-- Settles O33: it holds; without the precondition CPRES is refused, with it the answer is E_DIV0, OKAY or E_RANGE. -/
theorem cpresIsRefusedExactlyWithoutItsInputs : Obligations.CpresIsRefusedExactlyWithoutItsInputs := by
  refine fun s => ⟨fun hnot => ?_, fun hin s' hs hans => ?_⟩
  · have hr : cpresReady s = false := Bool.eq_false_iff.2 (mt cpresReady_iff.1 hnot)
    exact (execCpres_refused hr).trans (congrArg _ (raise_write_eq s .seq))
  · obtain h | h | h := execCpres_answer_of_ready (cpresReady_iff.2 hin) hs <;>
      exact absurd (h.symm.trans hans) (by decide)

/-- Settles O34: it holds; the rules' only solution is the machine's chain, and 32 bits hold its pressure. -/
theorem cpresCommitsTheChain : Obligations.CpresCommitsTheChain := by
  intro s v half p w hin hfront hb4 hquot htail hlo hhi
  have hpp : presPP s = w.pp := presPP_of_chain hfront hb4 hquot htail
  have hfits : fits32 (presPP s) = true := (fits32_iff _).2 (hpp ▸ ⟨hlo, hhi⟩)
  have hb4' : presB4 s ≠ 0 := presB4_of_front hfront ▸ hb4
  refine ⟨_, execCpres_of_fits (cpresReady_iff.2 hin) hb4' hfits, ?_, ?_, rfl⟩
  · exact (congrArg (fun x => (tc32 x).toInt) hpp).trans (tc32_toInt ⟨hlo, hhi⟩)
  · exact congrArg branchOf (presB7_of_front hfront)

/-- Settles O35: it holds; the machine's B4 is the one of the rules, and it is tested before the branch. -/
theorem cpresZeroDivisorIsRefused : Obligations.CpresZeroDivisorIsRefused := by
  intro s v hin hfront hb4
  refine ⟨_, execCpres_of_zero_divisor (cpresReady_iff.2 hin) ((presB4_of_front hfront).trans hb4), ?_, ?_⟩
  · exact raise_write_eq s.consumeSample.dropPressure .div0
  · exact fun j hj => peek_pressure_notvalid rfl hj

/-- Settles O36: it holds; the machine tests the pressure of the rules. -/
theorem cpresOutOfRangeIsRefused : Obligations.CpresOutOfRangeIsRefused := by
  intro s v half p w hin hfront hb4 hquot htail hout
  have hpp : presPP s = w.pp := presPP_of_chain hfront hb4 hquot htail
  have hfits : ¬ fits32 (presPP s) = true := by
    rw [fits32_iff, hpp]
    omega
  have hb4' : presB4 s ≠ 0 := presB4_of_front hfront ▸ hb4
  exact (execCpres_of_not_fits (cpresReady_iff.2 hin) hb4' hfits).trans
    (congrArg _ (raise_write_eq s.consumeSample.dropPressure .range))

/-- Settles O37: it holds, by the quadratic in `q` that encloses `pp`. -/
theorem onlyLargePressuresAreOutOfRange : Obligations.OnlyLargePressuresAreOutOfRange := by
  refine fun p => ⟨pascalOf_ge p, fun hbig => ?_⟩
  by_contra! hmid
  exact absurd (pascalOf_le_of_mem hmid.1 hmid.2) (not_le.2 hbig)

/-- Settles O38: it holds, line by line; the scale `2^m` of `f0` cancels against `k`. -/
theorem pressureChainFitsSixtyFourBits : Obligations.PressureChainFitsSixtyFourBits := by
  intro s hlo hhi
  have hb5 : |s.b5.toInt| ≤ 67141633 := abs_le.2 ⟨hlo, hhi⟩
  have hb7 := presB7_abs_le hb5
  have hpow := (two_pow_modeLevel_bounds s).2
  refine ⟨(presB6_abs_le hb5).trans_lt (by norm_num), lt_of_abs_lt ((presS0_abs_le hb5).trans_lt (by norm_num)),
    lt_of_abs_lt ((presS1_abs_le hb5).trans_lt (by norm_num)), (presA0_abs_le hb5).trans_lt (by norm_num),
    (presC1_abs_le hb5).trans_lt (by norm_num), (presX1a_abs_le hb5).trans_lt (by norm_num),
    (presA1_abs_le hb5).trans_lt (by norm_num), (presC0_abs_le hb5).trans_lt (by norm_num),
    (presX3a_abs_le hb5).trans_lt (by norm_num), (presB1_abs_le hb5).trans_lt (by linarith),
    (presB1_add_two_abs_le hb5).trans_lt (by linarith), (presB3_abs_le hb5).trans_lt (by linarith),
    (presX3b_abs_le hb5).trans_lt (by norm_num), (presE1_abs_le hb5).trans_lt (by norm_num),
    (presB4_abs_le hb5).trans_lt (by norm_num), hb7.trans_lt (by norm_num), fun hb4 => ?_, presChain_fits64 hb5⟩
  exact (pressOf_abs_le hb4).trans_lt (by linarith)

/-- Settles O39: it holds; a pressure in 32 bits needs `|q| ≤ 940000`, which bounds every line of the tail. -/
theorem successfulTailFitsSixtyFourBits : Obligations.SuccessfulTailFitsSixtyFourBits := by
  intro p hfits
  have hq : |tailQ p| ≤ 940000 := tailQ_abs_le_of_fits ((fits32_iff _).1 hfits).2
  exact ⟨(tailP_abs_le hq).trans_lt (by norm_num), hq.trans_lt (by norm_num),
    lt_of_abs_lt ((tailG0_abs_le hq).trans_lt (by norm_num)),
    lt_of_abs_lt ((tailG1_abs_le hq).trans_lt (by norm_num)), (tailH0_abs_le hq).trans_lt (by norm_num),
    tail_fits64 hq⟩

/-- Settles O40: it holds; each branch is one floor quotient, and doubling before dividing gains at most 1. -/
theorem branchFormulasAgreeWithinOne : Obligations.BranchFormulasAgreeWithinOne := by
  refine ⟨fun b7 b4 hb4 => ⟨branchOf_iff b7, fun h => ?_, fun h => ?_⟩,
    fun b7 b7' b4 hb4 => ⟨fdiv_double_bounds b7 hb4, pressOf_mono hb4⟩⟩
  · exact (floorQuot_iff_fdiv hb4).2 (pressOf_below h b4).symm
  · exact ⟨_, (floorQuot_iff_fdiv hb4).2 rfl, pressOf_above h b4⟩

/-- Settles O41: it holds; `k * 2^m = 50000` has the factor 5, which no power of two has. -/
theorem thresholdItselfIsNeverReached : Obligations.ThresholdItselfIsNeverReached := by
  intro s
  obtain ⟨h0, h1, h2, h3⟩ := presK_of_mode s
  exact ⟨h0, h1, h2, h3, dvd_mul_left _ _, presB7_ne_threshold s⟩

end Sys2Proof.Proofs

/-! # Scope: refused transactions (`60_exceptions.md`)

`StoppedIn` says with which code a transaction is refused and in which state (R164); `PortResponse` says how it is answered
(R163). `transact_response` proves of the port that nothing else happens; O20 and O21 are case splits over the two. A run
of legal inputs goes on because each step takes one input and leaves the others legal. -/

namespace Sys2Proof.Machine

open Sys2Proof.Rule

/-! ### Where the engine stops (R165, R192) -/

/-- A step stops only at a transaction issued during reset (R165, R192). -/
theorem step_next_or_refused (s : State) :
    (∃ s', step s = .next s') ∨
    (s.resetApplied = true ∧ (∃ t es, s.inputs = .transaction t :: es) ∧ step s = .refused .transactionDuringReset) := by
  cases hin : s.inputs with
  | nil => exact .inl ⟨s, step_idle hin⟩
  | cons e es =>
    cases e with
    | resetApply => exact .inl ⟨_, step_event hin⟩
    | resetRelease => exact .inl ⟨_, step_event hin⟩
    | transaction t =>
      cases hr : s.resetApplied with
      | false =>
        rw [step_transaction hr hin]
        exact .inl (transact_next t _)
      | true => exact .inr ⟨rfl, ⟨t, es, rfl⟩, (step_event hin).trans (if_pos hr)⟩

/-- A state no pending transaction of which is issued during reset (R192). -/
def InputsLegal (s : State) : Prop := inputsLegal s.resetApplied s.inputs = true

theorem InputsLegal.step_next {s : State} (h : InputsLegal s) : ∃ s', step s = .next s' := by
  obtain hs | ⟨hr, ⟨t, es, hin⟩, -⟩ := step_next_or_refused s
  · exact hs
  · simp [InputsLegal, inputsLegal, hr, hin] at h

theorem inputsLegal_of_transaction {applied : Bool} {t : Transaction} {es : List HostEvent}
    (h : inputsLegal applied (.transaction t :: es) = true) : inputsLegal applied es = true :=
  (Bool.and_eq_true_iff.1 h).2

theorem step_keeps_inputsLegal {s s' : State} (h : InputsLegal s) (hstep : step s = .next s') : InputsLegal s' := by
  unfold InputsLegal at h
  cases step_effect hstep with
  | idle => exact h
  | resetApplied hin | resetReleased hin =>
    rw [hin] at h
    exact h
  | _ hin =>
    rw [hin] at h
    exact inputsLegal_of_transaction h

/-- Package of the induction that a run goes on: from what holds at the start and every step keeps, each step answers. -/
theorem run_next (I : State → Prop) (hnext : ∀ s, I s → ∃ s', step s = .next s')
    (hstep : ∀ s s', I s → step s = .next s' → I s') : ∀ n s, I s → ∃ s', run n s = .next s' := by
  intro n
  induction n with
  | zero => exact fun s _ => ⟨s, rfl⟩
  | succ n ih =>
    intro s hs
    obtain ⟨s1, h1⟩ := hnext s hs
    obtain ⟨s', h'⟩ := ih s1 (hstep s s1 hs h1)
    exact ⟨s', (run_succ h1).trans h'⟩

/-! ### What a transaction is answered and what a refused one leaves (R163, R164) -/

/-- The access a transaction is. -/
def Transaction.access : Transaction → Access
  | .read _ => .read
  | .write _ _ => .write

/-- The transaction `t`, begun in `u`, is refused with the code `e` in the state `v`, before the refusal is recorded: with
nothing done, or in a chain that has consumed its sample (R164). -/
inductive StoppedIn (u : State) : Transaction → ErrCode → State → Prop
  /-- Codes 1 to 6. -/
  | unchanged {t e} (he : e.code.toNat ≤ 6) : StoppedIn u t e u
  /-- CTEMP's divisor is zero (R105). -/
  | temperature : StoppedIn u (.write 0x00 0x20) .div0 u.consumeSample.dropPressure.dropTemperature
  /-- CPRES's divisor is zero, or its result is out of range (R135, R140). -/
  | pressure {e} (he : e = .div0 ∨ e = .range) : StoppedIn u (.write 0x00 0x21) e u.consumeSample.dropPressure

/-- How a transaction, begun in `u`, is answered. Of a completed write it says only that the log is kept. -/
inductive PortResponse (u : State) : Transaction → State → Prop
  | readDone {a d} : PortResponse u (.read a) (u.okRead d)
  | writeDone {a d} {v : State} (herr : v.err = u.err) (hcause : v.ecause = u.ecause) :
      PortResponse u (.write a d) v.okWrite
  | logCleared : PortResponse u (.write 0x00 0x02) u.clearErrors.okWrite
  | refused {t e} {v : State} (h : StoppedIn u t e v) : PortResponse u t (v.raise t.access e)

/-- A refused read is E_ACCESS or E_NOTVALID (R55, R60). -/
theorem peek_error_code_le {a : Addr} {s : State} {e : ErrCode} (h : peek a s = .error e) : e.code.toNat ≤ 6 := by
  have hguarded {valid : Bool} {d : Byte} (h : guardedByte valid d = .error e) : e.code.toNat ≤ 6 := by
    cases valid with
    | false => cases h; decide
    | true => cases h
  unfold peek at h
  cases hreg : regAt a with
  | none =>
    rw [hreg] at h
    cases h
    decide
  | some r =>
    rw [hreg] at h
    cases r with
    | cmd => cases h; decide
    | b5 | t | p => exact hguarded h
    | _ => cases h

theorem PortResponse.of_exec {u s' : State} {i : Instr} (h : exec i u = .next s') :
    PortResponse u (.write 0x00 (encode i)) s' := by
  cases i with
  | lock =>
    obtain ⟨-, rfl⟩ | ⟨-, -, rfl⟩ | ⟨-, -, rfl⟩ := execLock_cases h
    · exact .refused (.unchanged (by decide))
    · exact .writeDone rfl rfl
    · exact .refused (.unchanged (by decide))
  | clrerr =>
    obtain rfl : _ = s' := Host.Outcome.next.inj h
    exact .logCleared
  | ctemp =>
    obtain ⟨-, rfl⟩ | ⟨-, -, rfl⟩ | ⟨-, -, rfl⟩ := execCtemp_cases h
    · exact .refused (.unchanged (by decide))
    · exact .refused .temperature
    · exact .writeDone rfl rfl
  | cpres =>
    obtain ⟨-, rfl⟩ | ⟨-, -, rfl⟩ | ⟨-, -, -, rfl⟩ | ⟨-, -, -, rfl⟩ := execCpres_cases h
    · exact .refused (.unchanged (by decide))
    · exact .refused (.pressure (.inl rfl))
    · exact .writeDone rfl rfl
    · exact .refused (.pressure (.inr rfl))

/-- A transaction has one of the listed responses. -/
theorem transact_response {t : Transaction} {u s' : State} (h : transact t u = .next s') : PortResponse u t s' := by
  cases t with
  | read a =>
    obtain rfl : _ = s' := Host.Outcome.next.inj h
    obtain ⟨d, -, hd⟩ | ⟨e, he, hr⟩ := memRead_cases a u
    · exact hd ▸ .readDone
    · exact hr ▸ .refused (.unchanged (peek_error_code_le he))
  | write a d =>
    obtain ⟨e, he, rfl⟩ | ⟨i, rfl, hd, hx⟩ | ⟨-, -, rfl⟩ | ⟨i, -, -, rfl⟩ | ⟨j, -, rfl⟩ := memWrite_cases h
    · refine .refused (.unchanged ?_)
      obtain rfl | rfl | rfl | rfl := he <;> decide
    · exact eq_encode_of_decode hd ▸ .of_exec hx
    all_goals exact .writeDone rfl rfl

/-- A pending transaction has one of the listed responses. -/
theorem step_response {s s' : State} {t : Transaction} {es : List HostEvent} (h : Pending s t es)
    (hs : step s = .next s') : PortResponse (s.withInputs es) t s' := by
  obtain ⟨hr, hin⟩ := h
  exact transact_response ((step_transaction hr hin).symm.trans hs)

/-- The log before the refusal is recorded is the one before the transaction (R163). -/
theorem StoppedIn.err_eq {u v : State} {t : Transaction} {e : ErrCode} (h : StoppedIn u t e v) : v.err = u.err := by
  cases h <;> rfl

/-- The codes are 1 to 8 (R161). -/
theorem code_toNat_bounds (e : ErrCode) : 1 ≤ e.code.toNat ∧ e.code.toNat ≤ 8 := by cases e <;> decide

@[simp] theorem respOf_refusalAnswer (x : Access) (e : ErrCode) : respOf (refusalAnswer x e) = e.code.toNat := by
  cases x <;> rfl

end Sys2Proof.Machine

namespace Sys2Proof.Proofs

open Sys2Proof.Machine Sys2Proof.Rule

/-- Settles O7: it holds; a transaction outside reset always gives a next state. -/
theorem stepAnswersUnlessTransactionDuringReset : Obligations.StepAnswersUnlessTransactionDuringReset :=
  step_next_or_refused

/-- Settles O8: it holds, by induction over the run; a step leaves the inputs after the first legal. -/
theorem legalInputsRunSafely : Obligations.LegalInputsRunSafely :=
  run_next InputsLegal (fun _ h => h.step_next) fun _ _ => step_keeps_inputsLegal

/-- Settles O20: it holds, response by response. -/
theorem everyRefusalIsRecorded : Obligations.EveryRefusalIsRecorded := by
  intro s s' t es h hs
  cases step_response h hs with
  | @readDone x d =>
    refine ⟨.read d okay, rfl, Nat.zero_le 8, fun _ _ ha => ?_, nofun, fun h0 => absurd rfl h0, fun _ => .inl ⟨rfl, rfl⟩⟩
    cases ha
    exact ⟨⟨x, rfl⟩, fun h0 => absurd rfl h0⟩
  | writeDone herr hcause =>
    exact ⟨.write okay, rfl, Nat.zero_le 8, nofun, fun _ _ => ⟨_, _, rfl⟩, fun h0 => absurd rfl h0,
      fun _ => .inl ⟨herr, hcause⟩⟩
  | logCleared =>
    exact ⟨.write okay, rfl, Nat.zero_le 8, nofun, fun _ _ => ⟨_, _, rfl⟩, fun h0 => absurd rfl h0,
      fun _ => .inr ⟨rfl, rfl, rfl⟩⟩
  | @refused _ e _ hv =>
    obtain ⟨hpos, hle⟩ := code_toNat_bounds e
    refine ⟨refusalAnswer t.access e, rfl, ?_, fun d c ha => ?_, fun c ha => ?_, fun _ => ?_, fun h0 => ?_⟩
    · exact (respOf_refusalAnswer _ e).trans_le hle
    · cases t with
      | read a => cases ha; exact ⟨⟨a, rfl⟩, fun _ => rfl⟩
      | write a b => cases ha
    · cases t with
      | read a => cases ha
      | write a b => exact ⟨a, b, rfl⟩
    · rw [respOf_refusalAnswer, State.raise_err, hv.err_eq]
      exact ⟨rfl, rfl⟩
    · rw [respOf_refusalAnswer] at h0
      omega

/-- Settles O21: it holds; a refusal records itself in the state its transaction was stopped in. -/
theorem refusalLeavesTheStateR164Says : Obligations.RefusalLeavesTheStateR164Says := by
  intro s s' t es a h hs hans hne
  cases step_response h hs with
  | readDone | writeDone | logCleared =>
    cases hans
    exact absurd rfl hne
  | @refused _ e _ hv =>
    obtain rfl : refusalAnswer t.access e = a := Option.some.inj hans
    rw [respOf_refusalAnswer]
    cases hv with
    | unchanged he =>
      exact ⟨fun _ => rfl, fun h7 => by omega, fun h7 => by omega, fun h7 => by omega, rfl, rfl, rfl⟩
    | temperature =>
      exact ⟨fun h6 => absurd h6 (by decide), fun _ _ => rfl, nofun, fun _ => .inl rfl, rfl, rfl, rfl⟩
    | pressure he =>
      have h7 : 7 ≤ e.code.toNat := by obtain rfl | rfl := he <;> decide
      exact ⟨fun h6 => by omega, nofun, fun _ _ => rfl, fun _ => .inr rfl, rfl, rfl, rfl⟩

end Sys2Proof.Proofs

/-! # Scope: reset (`70_reset_and_hazards.md`)

The reset input's two events and a transaction under it, one rule each for the step (R190, R192). O43 is the first of them;
O44 chains them over a run. -/

namespace Sys2Proof.Machine

variable {s : State} {es : List HostEvent}

/-- The reset input becomes active: the reset state, with the inputs still pending (R190). -/
theorem step_resetApply (h : s.inputs = .resetApply :: es) :
    step s = .next { State.reset with resetApplied := true, inputs := es } :=
  step_event h

/-- The reset input becomes inactive, and nothing else changes (R192). -/
theorem step_resetRelease (h : s.inputs = .resetRelease :: es) : step s = .next (s.withInputs es).releaseReset :=
  step_event h

/-- A transaction issued while reset is applied has no meaning (R192, U3; log entry 2). -/
theorem step_transaction_of_resetApplied {t : Transaction} (hr : s.resetApplied = true)
    (h : s.inputs = .transaction t :: es) : step s = .refused .transactionDuringReset :=
  (step_event h).trans (if_pos hr)

/-- A run that begins with reset applied and released goes on from the reset state (R192). -/
theorem run_resetApply_resetRelease (n : Nat) (h : s.inputs = .resetApply :: .resetRelease :: es) :
    Host.Core.run Sys2Proof.core (n + 2) s = Host.Core.run Sys2Proof.core n (State.reset.withInputs es) := by
  have hrelease : step { State.reset with resetApplied := true, inputs := .resetRelease :: es }
      = .next (State.reset.withInputs es) := step_resetRelease rfl
  exact (run_succ (step_resetApply h)).trans (run_succ hrelease)

/-- A run of one step is that step. -/
theorem run_one (s : State) : Host.Core.run Sys2Proof.core 1 s = step s := by
  cases hs : step s with
  | next s' => exact run_succ hs
  | fault f => exact nomatch f
  | refused r => exact coreRun_refused Sys2Proof.core 0 s r hs

end Sys2Proof.Machine

namespace Sys2Proof.Proofs

open Sys2Proof.Machine Sys2Proof.Rule

/-- Settles O44: it holds; during reset the transaction is refused, and after release it is the first step from the reset
state. -/
theorem transactionsSeeTheResetStateOnlyAfterRelease : Obligations.TransactionsSeeTheResetStateOnlyAfterRelease := by
  intro s t es
  refine ⟨fun h => ?_, fun h => ?_⟩
  · calc run 2 s
        = run 1 { State.reset with resetApplied := true, inputs := .transaction t :: es } := run_succ (step_resetApply h)
      _ = step { State.reset with resetApplied := true, inputs := .transaction t :: es } := run_one _
      _ = .refused .transactionDuringReset := step_transaction_of_resetApplied rfl rfl
  · calc run 3 s
        = run 1 (State.reset.withInputs (.transaction t :: es)) := run_resetApply_resetRelease 1 h
      _ = step (State.reset.withInputs (.transaction t :: es)) := run_one _
      _ = transact t { State.reset with inputs := es } := step_transaction rfl rfl

/-- Settles O43: it holds, by the rule for applying reset. -/
theorem resetSetsEveryItem : Obligations.ResetSetsEveryItem := fun _ _ h => ⟨_, step_resetApply h, rfl⟩

end Sys2Proof.Proofs
